-- ==== Sys2Proof/Word.lean ====
section
/-! DEFINITION. The word types: 32-bit accumulators, message words and constants, 8-bit message bytes (R4). All values
are unsigned (R9). -/

namespace Sys2Proof

/-- The 32-bit unit of every accumulator, message word and additive constant (R4). -/
abbrev Word := BitVec 32

/-- The message unit (R4). -/
abbrev Byte := BitVec 8

end Sys2Proof
end

