-- ==== Sys2Proof/Config.lean ====
section
/-! DEFINITION. The free values: what the data registers hold after the Reset event, which the spec leaves unspecified
(R27, R190, D7, U1). They have no body, so nothing can be proved of a value of theirs; each is applied to a draw number that
the Reset event takes from State's plain counter DRAWS (assumption log, entry 2); that the number alone decides the value, in every
instance alike, is the model's choice (entry 21). -/

namespace Sys2Proof

/-- A 32-bit register after the Reset event. -/
opaque Config.freeWord : Nat → Word

/-- A 6-bit register (CNT, T) after the Reset event. -/
opaque Config.freeIndex : Nat → BitVec 6

/-- LEN after the Reset event. -/
opaque Config.freeLength : Nat → BitVec 64

end Sys2Proof
end

