-- ==== Sys2Proof/Syntax.lean ====
section
/-! DEFINITION. The instructions, one constructor per row of the opcode table (R61, R65, R70), and the lines of a script
(R67). -/

namespace Sys2Proof

/-- One constructor per row of spec/opcode_table.json. The four commands come from the host's command port (R61); the 64
operations, CHAIN, PADZ and PADL are the engine's own micro-steps (R135). RSVD, INIT and FINAL keep their `data` field, which
their meanings ignore (R62), so that no bit of a command word is lost. -/
inductive Instr where
  /-- RSVD, the reserved command (R134). -/
  | rsvd (data : Byte)
  /-- INIT, start a new computation (R131). -/
  | init (data : Byte)
  /-- UPDATE, feed one message byte (R132). -/
  | update (data : Byte)
  /-- FINAL, finish the computation (R133). -/
  | final (data : Byte)
  -- FF, operations 0 to 15 (R103)
  | ff0 | ff1 | ff2 | ff3 | ff4 | ff5 | ff6 | ff7
  | ff8 | ff9 | ff10 | ff11 | ff12 | ff13 | ff14 | ff15
  -- GG, operations 16 to 31 (R104)
  | gg16 | gg17 | gg18 | gg19 | gg20 | gg21 | gg22 | gg23
  | gg24 | gg25 | gg26 | gg27 | gg28 | gg29 | gg30 | gg31
  -- HH, operations 32 to 47 (R105)
  | hh32 | hh33 | hh34 | hh35 | hh36 | hh37 | hh38 | hh39
  | hh40 | hh41 | hh42 | hh43 | hh44 | hh45 | hh46 | hh47
  -- II, operations 48 to 63 (R106)
  | ii48 | ii49 | ii50 | ii51 | ii52 | ii53 | ii54 | ii55
  | ii56 | ii57 | ii58 | ii59 | ii60 | ii61 | ii62 | ii63
  /-- CHAIN, the chaining step (R109). -/
  | chain
  /-- PADZ, append one zero byte (R85). -/
  | padz
  /-- PADL, append the length field and start the last block (R86). -/
  | padl
  deriving DecidableEq, Repr

/-- The operand of a script's UPDATE or RSVD: "a byte in any number notation or a quoted character" (R67). -/
inductive ByteOperand where
  | number (n : Nat)
  | quoted (c : Char)
  deriving DecidableEq, Repr

/-- The number a script operand stands for; a quoted character is its ASCII code (R67, G8). -/
def ByteOperand.value : ByteOperand → Nat
  | .number n => n
  | .quoted c => c.toNat

/-- One line of a script (R67). RESET is the Reset event, not a command word. -/
inductive ScriptLine where
  | init
  | update (operand : ByteOperand)
  | final
  | rsvd (operand : ByteOperand)
  | reset
  deriving DecidableEq, Repr

end Sys2Proof
end

