-- ==== Sys2Proof/WellFormed.lean ====
section
/-! DEFINITION. What well-formed syntax is. Every term of `Instr` is a well-formed instruction: its only operand is an 8-bit
byte by type, and every 10-bit word decodes (R61), so there is nothing to check on it. What can be ill-formed is a line of a
script, whose operand is a number or a character that may be no byte (R67); and R62 names a canonical spelling of the three
commands that ignore their data field. -/

namespace Sys2Proof

/-- A number operand is a byte; a quoted character is ASCII (R67, G8). -/
def ByteOperand.wellFormed : ByteOperand → Bool
  | .number n => decide (n < 256)
  | .quoted c => decide (c.toNat < 128)

/-- A script line is well-formed when its operand, if it has one, is a byte (R67). -/
def ScriptLine.wellFormed : ScriptLine → Bool
  | .init => true
  | .update x => x.wellFormed
  | .final => true
  | .rsvd x => x.wellFormed
  | .reset => true

/-- A script is well-formed when each of its lines is. -/
def scriptWellFormed (script : List ScriptLine) : Bool :=
  script.all ScriptLine.wellFormed

/-- Whether the instruction is spelled canonically: data = 0x00 in the commands that ignore it (R62). -/
def Instr.canonical : Instr → Bool
  | .rsvd data => data == 0
  | .init data => data == 0
  | .update _ => true
  | .final data => data == 0
  | .ff0 | .ff1 | .ff2 | .ff3 | .ff4 | .ff5 | .ff6 | .ff7 => true
  | .ff8 | .ff9 | .ff10 | .ff11 | .ff12 | .ff13 | .ff14 | .ff15 => true
  | .gg16 | .gg17 | .gg18 | .gg19 | .gg20 | .gg21 | .gg22 | .gg23 => true
  | .gg24 | .gg25 | .gg26 | .gg27 | .gg28 | .gg29 | .gg30 | .gg31 => true
  | .hh32 | .hh33 | .hh34 | .hh35 | .hh36 | .hh37 | .hh38 | .hh39 => true
  | .hh40 | .hh41 | .hh42 | .hh43 | .hh44 | .hh45 | .hh46 | .hh47 => true
  | .ii48 | .ii49 | .ii50 | .ii51 | .ii52 | .ii53 | .ii54 | .ii55 => true
  | .ii56 | .ii57 | .ii58 | .ii59 | .ii60 | .ii61 | .ii62 | .ii63 => true
  | .chain | .padz | .padl => true

end Sys2Proof
end

