-- ==== Sys2Proof/Decode.lean ====
section
/-! DEFINITION. Decoding and encoding. Three things select what the engine does next: the host's 10-bit command word (R60,
R61), the 6-bit operation index in T (R65), and the sequencer's state, with CNT in state PAD (R70, R135). `Selector` is that
choice as the hardware holds it, `decode` is total on it, and `encode` gives it back. Raw bits, numbered as the opcode table
numbers them, are read by `selectorOfBits`, which rejects by name what no row has. -/

namespace Sys2Proof

/-- What selects an instruction: a command word, an operation index, or the sequencer standing at CHAIN, or at PAD with the
fill counter CNT (R61, R65, R70). -/
inductive Selector where
  | cmd (word : BitVec 10)
  | step (index : BitVec 6)
  | chain
  | pad (cnt : BitVec 6)
  deriving DecidableEq, Repr

/-- Why raw bits select nothing. -/
inductive DecodeError where
  /-- More bits set than a 10-bit command word has (R60). -/
  | commandTooWide
  /-- More bits set than a 6-bit operation index has (R65). -/
  | indexTooWide
  /-- More bits set than the 2-bit SEQ has (R17). -/
  | sequencerTooWide
  /-- SEQ = READY: the next step is a host command, which its own word selects (R17). -/
  | sequencerReady
  /-- SEQ = OP: the operation is selected by its index (R17, R65). -/
  | sequencerOp
  /-- No format of the table has so many bits. -/
  | noSuchFormat
  deriving DecidableEq, Repr

/-- op = bits 9:8, data = bits 7:0 (R60); the opcode map of R61. -/
def decodeCmd (word : BitVec 10) : Instr :=
  let op := word.extractLsb' 8 2
  let data : Byte := word.extractLsb' 0 8
  if op = 0b00#2 then .rsvd data
  else if op = 0b01#2 then .init data
  else if op = 0b10#2 then .update data
  else .final data

/-- The operations of round group 0, by position. -/
def ffGroup : List Instr :=
  [.ff0, .ff1, .ff2, .ff3, .ff4, .ff5, .ff6, .ff7,
   .ff8, .ff9, .ff10, .ff11, .ff12, .ff13, .ff14, .ff15]

/-- The operations of round group 1, by position. -/
def ggGroup : List Instr :=
  [.gg16, .gg17, .gg18, .gg19, .gg20, .gg21, .gg22, .gg23,
   .gg24, .gg25, .gg26, .gg27, .gg28, .gg29, .gg30, .gg31]

/-- The operations of round group 2, by position. -/
def hhGroup : List Instr :=
  [.hh32, .hh33, .hh34, .hh35, .hh36, .hh37, .hh38, .hh39,
   .hh40, .hh41, .hh42, .hh43, .hh44, .hh45, .hh46, .hh47]

/-- The operations of round group 3, by position. -/
def iiGroup : List Instr :=
  [.ii48, .ii49, .ii50, .ii51, .ii52, .ii53, .ii54, .ii55,
   .ii56, .ii57, .ii58, .ii59, .ii60, .ii61, .ii62, .ii63]

/-- r = bits 5:4 is the round group, p = bits 3:0 the position in it (R65). -/
def decodeStep (index : BitVec 6) : Instr :=
  let r := index.extractLsb' 4 2
  let p := (index.extractLsb' 0 4).toNat
  if r = 0b00#2 then ffGroup.getD p .ff0
  else if r = 0b01#2 then ggGroup.getD p .gg16
  else if r = 0b10#2 then hhGroup.getD p .hh32
  else iiGroup.getD p .ii48

/-- In state PAD the fill counter selects the padding step (R135). -/
def decodePad (cnt : BitVec 6) : Instr :=
  if cnt = 56 then .padl else .padz

/-- The instruction a selector stands for; total (R61: "the decoder is total"). -/
def decode : Selector → Instr
  | .cmd word => decodeCmd word
  | .step index => decodeStep index
  | .chain => .chain
  | .pad cnt => decodePad cnt

/-- A command word: op in bits 9:8, data in bits 7:0 (R60). -/
def commandWord (op : BitVec 2) (data : Byte) : BitVec 10 := op ++ data

/-- The selector of an instruction, from the same tables. PADZ is selected by every CNT but 56; its canonical CNT here
is 0. -/
def encode : Instr → Selector
  | .rsvd data => .cmd (commandWord 0b00#2 data)
  | .init data => .cmd (commandWord 0b01#2 data)
  | .update data => .cmd (commandWord 0b10#2 data)
  | .final data => .cmd (commandWord 0b11#2 data)
  | .ff0 => .step 0b000000#6
  | .ff1 => .step 0b000001#6
  | .ff2 => .step 0b000010#6
  | .ff3 => .step 0b000011#6
  | .ff4 => .step 0b000100#6
  | .ff5 => .step 0b000101#6
  | .ff6 => .step 0b000110#6
  | .ff7 => .step 0b000111#6
  | .ff8 => .step 0b001000#6
  | .ff9 => .step 0b001001#6
  | .ff10 => .step 0b001010#6
  | .ff11 => .step 0b001011#6
  | .ff12 => .step 0b001100#6
  | .ff13 => .step 0b001101#6
  | .ff14 => .step 0b001110#6
  | .ff15 => .step 0b001111#6
  | .gg16 => .step 0b010000#6
  | .gg17 => .step 0b010001#6
  | .gg18 => .step 0b010010#6
  | .gg19 => .step 0b010011#6
  | .gg20 => .step 0b010100#6
  | .gg21 => .step 0b010101#6
  | .gg22 => .step 0b010110#6
  | .gg23 => .step 0b010111#6
  | .gg24 => .step 0b011000#6
  | .gg25 => .step 0b011001#6
  | .gg26 => .step 0b011010#6
  | .gg27 => .step 0b011011#6
  | .gg28 => .step 0b011100#6
  | .gg29 => .step 0b011101#6
  | .gg30 => .step 0b011110#6
  | .gg31 => .step 0b011111#6
  | .hh32 => .step 0b100000#6
  | .hh33 => .step 0b100001#6
  | .hh34 => .step 0b100010#6
  | .hh35 => .step 0b100011#6
  | .hh36 => .step 0b100100#6
  | .hh37 => .step 0b100101#6
  | .hh38 => .step 0b100110#6
  | .hh39 => .step 0b100111#6
  | .hh40 => .step 0b101000#6
  | .hh41 => .step 0b101001#6
  | .hh42 => .step 0b101010#6
  | .hh43 => .step 0b101011#6
  | .hh44 => .step 0b101100#6
  | .hh45 => .step 0b101101#6
  | .hh46 => .step 0b101110#6
  | .hh47 => .step 0b101111#6
  | .ii48 => .step 0b110000#6
  | .ii49 => .step 0b110001#6
  | .ii50 => .step 0b110010#6
  | .ii51 => .step 0b110011#6
  | .ii52 => .step 0b110100#6
  | .ii53 => .step 0b110101#6
  | .ii54 => .step 0b110110#6
  | .ii55 => .step 0b110111#6
  | .ii56 => .step 0b111000#6
  | .ii57 => .step 0b111001#6
  | .ii58 => .step 0b111010#6
  | .ii59 => .step 0b111011#6
  | .ii60 => .step 0b111100#6
  | .ii61 => .step 0b111101#6
  | .ii62 => .step 0b111110#6
  | .ii63 => .step 0b111111#6
  | .chain => .chain
  | .padz => .pad 0#6
  | .padl => .pad 56#6

/-- Raw bits as the opcode table numbers them, with the width of the row. A row of format CMD has 10 bits (two whole bytes), of
format STEP 6 bits (one whole byte), of format SEQ 2 bits. The last two have one byte each when their width is rounded up; one
byte is read as a STEP row, because a SEQ row is "selected by sequencer state rather than by bits" (R70; assumption log,
entry 7). SEQ = PAD is read with CNT = 0. -/
def selectorOfBits (nbits w : Nat) : Except DecodeError Selector :=
  if nbits ≤ 2 then
    if w = 0 then .error .sequencerReady
    else if w = 1 then .error .sequencerOp
    else if w = 2 then .ok .chain
    else if w = 3 then .ok (.pad 0#6)
    else .error .sequencerTooWide
  else if nbits ≤ 8 then
    if w < 64 then .ok (.step (BitVec.ofNat 6 w)) else .error .indexTooWide
  else if nbits ≤ 16 then
    if w < 1024 then .ok (.cmd (BitVec.ofNat 10 w)) else .error .commandTooWide
  else .error .noSuchFormat

/-- The instruction the decoder reads from raw bits numbered as the opcode table numbers them. -/
def decodeTableWord (nbits w : Nat) : Option Instr :=
  match selectorOfBits nbits w with
  | .ok selector => some (decode selector)
  | .error _ => none

/-- The data field of a command: it is a byte by type, so this is total on well-formed operands; what is no byte is
refused (R67). -/
def ByteOperand.byte (x : ByteOperand) : Option Byte :=
  if x.wellFormed then some (BitVec.ofNat 8 x.value) else none

/-- The command word of a script line (R67); none for RESET, which is no command word, and for an operand that is no
byte. -/
def ScriptLine.word : ScriptLine → Option (BitVec 10)
  | .init => some 0x100#10
  | .update x => x.byte.map (commandWord 0b10#2)
  | .final => some 0x300#10
  | .rsvd x => x.byte.map (commandWord 0b00#2)
  | .reset => none

end Sys2Proof
end

