-- ==== Sys2Proof/Machine/State.lean ====
section
/-! DEFINITION. The engine's state (R10: "The complete state of one engine instance. Nothing else is state."), what the host
drives on its ports (R23), the reasons a step can stop, and the state after Reset (R27). Register names are the spec's. -/

namespace Sys2Proof.Machine

/-- PHASE (R16). The value 3 is never written and has no constructor (U5). -/
inductive Phase where
  | idle | absorb | done
  deriving DecidableEq, Repr

/-- SEQ, the sequencer (R17). -/
inductive Seq where
  | ready | op | chain | pad
  deriving DecidableEq, Repr

/-- ERRCODE: the cause of a usage error (R161). The values 5 to 7 are never written and have no constructor (U5). -/
inductive Cause where
  | none | updateAfterFinal | finalAfterFinal | noComputation | reservedCommand
  deriving DecidableEq, Repr

/-- What the host drives during one step (R23): the Reset event, `cmd_valid` and `cmd`. -/
structure PortInput where
  reset : Bool
  cmdValid : Bool
  cmd : BitVec 10
  deriving DecidableEq, Repr

/-- The host drives nothing. -/
def PortInput.idle : PortInput := ⟨false, false, 0⟩

/-- BUF: the bytes that have been written since Reset, with their index, in strictly rising order. A byte that is not listed
has not been written (R56, U1; assumption log, entry 3). -/
abbrev Memory := List Host.Cell

/-- The state of one engine. -/
structure State where
  /-- The accumulators (R11). -/
  A : Word
  B : Word
  C : Word
  D : Word
  /-- The saved copy of A..D from before the current block (R12). -/
  AA : Word
  BB : Word
  CC : Word
  DD : Word
  /-- The block buffer (R13). -/
  BUF : Memory
  /-- The number of bytes held in BUF, and the index of the next byte to write (R14). -/
  CNT : BitVec 6
  /-- The message length in bits, modulo 2^64 (R15). -/
  LEN : BitVec 64
  /-- Where the computation stands (R16). -/
  PHASE : Phase
  /-- The sequencer (R17). -/
  SEQ : Seq
  /-- The index of the next compression operation (R18). -/
  T : BitVec 6
  /-- Finalization in progress (R19). -/
  FIN : Bool
  /-- The block being compressed holds the length field (R19). -/
  LAST : Bool
  /-- The sticky usage-error flag (R20). -/
  ERR : Bool
  /-- The cause of the first usage error since ERR was last clear (R20). -/
  ERRCODE : Cause
  /-- The model's own: what the host drives, one entry a step, oldest first; an exhausted list drives nothing (R23;
  assumption log, entry 5). -/
  PORT : List PortInput
  /-- The model's own: how many free values the Reset event has drawn (assumption log, entry 2). -/
  DRAWS : Nat
  /-- The model's own never-cleared record that some usage error happened, which R162 allows and D11 recommends (assumption
  log, entry 9). -/
  EVERERR : Bool
  deriving DecidableEq, Repr

/-- Why the model stops with a fault. -/
inductive Fault where
  /-- Raised by an operation (FF, GG, HH, II) that reads a byte of BUF which nothing has written since Reset; the argument is
  the byte's index. Safe: the hardware would read some byte there and go on. U1 asks for it ("`fault` on a read before a
  write"); no state a run reaches raises it (R56). -/
  | bufUnwritten (index : Nat)
  deriving DecidableEq, Repr

/-- Why the model refuses. -/
inductive Refusal where
  /-- Raised by an arm of `exec` whose instruction has no meaning yet. Safe: nothing is said of that instruction. -/
  | notModelled (mnemonic : String)
  /-- Raised by reading DIGEST while PHASE is not DONE, never by a step. Safe: the port shows some value there, and nothing is
  said of it. U2 asks for it ("`refuse`: the model's read-digest observation is defined only in PHASE = DONE"). -/
  | digestUnspecified
  deriving DecidableEq, Repr

/-- The state right after Reset (R27). PHASE, SEQ, FIN, LAST, ERR and ERRCODE are the spec's; BUF has nothing written; the
spec leaves A..D, AA..DD, CNT, LEN and T unspecified, and their zeros here are the model's (DESIGN CHOICE, unsafe: assumption
log, entry 1). The host drives nothing yet. -/
def State.reset : State where
  A := 0
  B := 0
  C := 0
  D := 0
  AA := 0
  BB := 0
  CC := 0
  DD := 0
  BUF := []
  CNT := 0
  LEN := 0
  PHASE := .idle
  SEQ := .ready
  T := 0
  FIN := false
  LAST := false
  ERR := false
  ERRCODE := .none
  PORT := []
  DRAWS := 0
  EVERERR := false

end Sys2Proof.Machine
end

