-- ==== Sys2Proof/Machine/Operands.lean ====
section
/-! DEFINITION. The operand forms of an operation: the constant tables K, S and g (R97 to R99), which the spec supplies from
general knowledge and checks by its vectors (G2 to G4; assumption log, entry 13), the initial constants IV (R112), and the
reads and writes of BUF, with the word view M of it (R40, R41, R45). -/

namespace Sys2Proof.Machine

/-! ### The constant tables -/

/-- K[0..15] (R97). -/
def kGroup0 : List Word :=
  [0xd76aa478, 0xe8c7b756, 0x242070db, 0xc1bdceee,
   0xf57c0faf, 0x4787c62a, 0xa8304613, 0xfd469501,
   0x698098d8, 0x8b44f7af, 0xffff5bb1, 0x895cd7be,
   0x6b901122, 0xfd987193, 0xa679438e, 0x49b40821]

/-- K[16..31] (R97). -/
def kGroup1 : List Word :=
  [0xf61e2562, 0xc040b340, 0x265e5a51, 0xe9b6c7aa,
   0xd62f105d, 0x02441453, 0xd8a1e681, 0xe7d3fbc8,
   0x21e1cde6, 0xc33707d6, 0xf4d50d87, 0x455a14ed,
   0xa9e3e905, 0xfcefa3f8, 0x676f02d9, 0x8d2a4c8a]

/-- K[32..47] (R97). -/
def kGroup2 : List Word :=
  [0xfffa3942, 0x8771f681, 0x6d9d6122, 0xfde5380c,
   0xa4beea44, 0x4bdecfa9, 0xf6bb4b60, 0xbebfbc70,
   0x289b7ec6, 0xeaa127fa, 0xd4ef3085, 0x04881d05,
   0xd9d4d039, 0xe6db99e5, 0x1fa27cf8, 0xc4ac5665]

/-- K[48..63] (R97). -/
def kGroup3 : List Word :=
  [0xf4292244, 0x432aff97, 0xab9423a7, 0xfc93a039,
   0x655b59c3, 0x8f0ccc92, 0xffeff47d, 0x85845dd1,
   0x6fa87e4f, 0xfe2ce6e0, 0xa3014314, 0x4e0811a1,
   0xf7537e82, 0xbd3af235, 0x2ad7d2bb, 0xeb86d391]

/-- The additive constant K[i] (R97). -/
def K (i : BitVec 6) : Word :=
  (kGroup0 ++ kGroup1 ++ kGroup2 ++ kGroup3).getD i.toNat 0

/-- SR[r], the four rotation amounts of round group r (R98). -/
def SR (r : BitVec 2) : List Nat :=
  if r = 0 then [7, 12, 17, 22]
  else if r = 1 then [5, 9, 14, 20]
  else if r = 2 then [4, 11, 16, 23]
  else [6, 10, 15, 21]

/-- The rotation amount S[i] = SR[i[5:4]][i[1:0]] (R98). -/
def S (i : BitVec 6) : Nat :=
  (SR (i.extractLsb' 4 2)).getD (i.extractLsb' 0 2).toNat 0

/-- The position p = i[3:0] of an operation in its round group (R65); the word-index formulas may be evaluated with it
(R99). -/
def position (i : BitVec 6) : BitVec 4 := i.extractLsb' 0 4

/-- g(i) = i mod 16 (R99, group 0). -/
def gFF (i : BitVec 6) : BitVec 4 := position i

/-- g(i) = (5 i + 1) mod 16 (R99, group 1). -/
def gGG (i : BitVec 6) : BitVec 4 := 5 * position i + 1

/-- g(i) = (3 i + 5) mod 16 (R99, group 2). -/
def gHH (i : BitVec 6) : BitVec 4 := 3 * position i + 5

/-- g(i) = 7 i mod 16 (R99, group 3). -/
def gII (i : BitVec 6) : BitVec 4 := 7 * position i

/-- The word index g(i) (R99). -/
def g (i : BitVec 6) : BitVec 4 :=
  let r := i.extractLsb' 4 2
  if r = 0 then gFF i else if r = 1 then gGG i else if r = 2 then gHH i else gII i

/-- Four 32-bit values in the roles A, B, C, D. -/
structure Quad where
  a : Word
  b : Word
  c : Word
  d : Word
  deriving DecidableEq, Repr

/-- The initial constants (R112). -/
def IV : Quad := ⟨0x67452301, 0xefcdab89, 0x98badcfe, 0x10325476⟩

/-! ### BUF -/

/-- The byte written at an index, if one has been. -/
def Memory.lookup : Memory → Nat → Option Byte
  | [], _ => none
  | (k, v) :: rest, i => if k = i then some v else Memory.lookup rest i

/-- Write a byte at an index, keeping the cells in rising order. -/
def Memory.insert : Memory → Nat → Byte → Memory
  | [], i, v => [(i, v)]
  | (k, w) :: rest, i, v =>
    if i < k then (i, v) :: (k, w) :: rest
    else if i = k then (i, v) :: rest
    else (k, w) :: Memory.insert rest i v

/-- The cells have strictly rising indices, none below `low` and all below 64. -/
def Memory.risingFrom : Nat → Memory → Bool
  | _, [] => true
  | low, (k, _) :: rest => decide (low ≤ k) && decide (k < 64) && Memory.risingFrom (k + 1) rest

/-- The canonical form of BUF: strictly rising indices in 0..63. No cell equals what an unlisted index reads as, since that is
no value. -/
def Memory.wf (m : Memory) : Bool := Memory.risingFrom 0 m

/-- Read BUF[i]. A byte that nothing has written since Reset faults (U1). Every 6-bit index exists (R40). -/
def bufRead (m : Memory) (i : BitVec 6) : Except Fault Byte :=
  match Memory.lookup m i.toNat with
  | some v => .ok v
  | none => .error (.bufUnwritten i.toNat)

/-- BUF[i] <- v. -/
def bufWrite (m : Memory) (i : BitVec 6) (v : Byte) : Memory := Memory.insert m i.toNat v

/-- MemRead(addr, n), little-endian: the sum over k of 2^(8k) * BUF[addr + k] (R45). It is used with addr + n at most 64, so
the 6-bit index never wraps, and with n = 4 only; other widths are the model's choice (assumption log, entry 16). -/
def memRead (m : Memory) (addr : BitVec 6) : Nat → Except Fault Nat
  | 0 => .ok 0
  | n + 1 =>
    match bufRead m addr with
    | .error f => .error f
    | .ok low =>
      match memRead m (addr + 1) n with
      | .error f => .error f
      | .ok high => .ok (low.toNat + 256 * high)

/-- MemWrite(addr, n, v), little-endian: BUF[addr + k] <- v[8k+7:8k] for k in 0..n-1 (R45). It is used with addr + n at most 64,
so the 6-bit index never wraps, and with n = 1 and n = 8 only (assumption log, entry 16). -/
def memWrite (m : Memory) (addr : BitVec 6) : Nat → Nat → Memory
  | 0, _ => m
  | n + 1, v => memWrite (bufWrite m addr (BitVec.ofNat 8 v)) (addr + 1) n (v / 256)

/-- The word view M[j] = MemRead(4 j, 4) (R41). The index 4 j is j with two zero bits below it. -/
def M (m : Memory) (j : BitVec 4) : Except Fault Word :=
  match memRead m (j ++ 0#2) 4 with
  | .error f => .error f
  | .ok v => .ok (BitVec.ofNat 32 v)

end Sys2Proof.Machine
end

