-- ==== Sys2Proof/Machine/Flags.lean ====
section
/-! DEFINITION. The flags and the STATUS output: the numbers of PHASE and ERRCODE (R16, R161) and the layout of STATUS
(R21). The operations write no arithmetic flag (R20). -/

namespace Sys2Proof.Machine

/-- The number of PHASE in STATUS[4:3] (R16). -/
def Phase.code : Phase → BitVec 2
  | .idle => 0
  | .absorb => 1
  | .done => 2

/-- The number of ERRCODE in STATUS[7:5] (R161). -/
def Cause.code : Cause → BitVec 3
  | .none => 0
  | .updateAfterFinal => 1
  | .finalAfterFinal => 2
  | .noComputation => 3
  | .reservedCommand => 4

/-- RDY: SEQ = READY (R21). -/
def State.rdy (s : State) : Bool := s.SEQ == .ready

/-- DONE: PHASE = DONE (R21). -/
def State.done (s : State) : Bool := s.PHASE == .done

/-- STATUS: bit 0 RDY, bit 1 DONE, bit 2 ERR, bits 4:3 PHASE, bits 7:5 ERRCODE (R21). -/
def State.status (s : State) : BitVec 8 :=
  s.ERRCODE.code ++ s.PHASE.code ++ BitVec.ofBool s.ERR ++ BitVec.ofBool s.done ++ BitVec.ofBool s.rdy

end Sys2Proof.Machine
end

