-- ==== Sys2Proof/Machine/Functions.lean ====
section
/-! DEFINITION. The pure functions of an operation: rotation (R100), the four nonlinear functions and their selection (R92 to
R96), and one operation OPSTEP (R102). Addition is modulo 2^32 (R101). -/

namespace Sys2Proof.Machine

/-- rotl32(x, s): ((x << s) mod 2^32) OR (x >> (32 - s)), for 0 < s < 32 (R9, R100). No operation rotates by another
amount, and what this gives there is the model's choice (assumption log, entry 23). -/
def rotl32 (x : Word) (s : Nat) : Word := (x <<< s) ||| (x >>> (32 - s))

/-- F(X, Y, Z) = (X AND Y) OR ((NOT X) AND Z) (R92). -/
def F (x y z : Word) : Word := (x &&& y) ||| (~~~x &&& z)

/-- G(X, Y, Z) = (X AND Z) OR (Y AND (NOT Z)) (R93). -/
def G (x y z : Word) : Word := (x &&& z) ||| (y &&& ~~~z)

/-- H(X, Y, Z) = X XOR Y XOR Z (R94). -/
def H (x y z : Word) : Word := x ^^^ y ^^^ z

/-- I(X, Y, Z) = Y XOR (X OR (NOT Z)) (R95). -/
def I (x y z : Word) : Word := y ^^^ (x ||| ~~~z)

/-- NL_i, chosen by the round group i[5:4] (R96). -/
def NL (i : BitVec 6) : Word → Word → Word → Word :=
  let r := i.extractLsb' 4 2
  if r = 0 then F else if r = 1 then G else if r = 2 then H else I

/-- The four-term sum t of an operation, from the value f of its nonlinear function, its constant and its message word
(R102). -/
def opSum (w : Quad) (f k m : Word) : Word := w.a + f + k + m

/-- The role rotation: the new tuple (d, nb, b, c) with nb = b + rotl32(t, s) (R102, C1). -/
def rotateRoles (w : Quad) (t : Word) (s : Nat) : Quad := ⟨w.d, w.b + rotl32 t s, w.b, w.c⟩

/-- OPSTEP(i, (a, b, c, d), M) (R102). -/
def opstep (i : BitVec 6) (w : Quad) (words : BitVec 4 → Word) : Quad :=
  rotateRoles w (opSum w (NL i w.b w.c w.d) (K i) (words (g i))) (S i)

/-- Register-wise addition modulo 2^32 (R109, R110). -/
def Quad.add (x y : Quad) : Quad := ⟨x.a + y.a, x.b + y.b, x.c + y.c, x.d + y.d⟩

end Sys2Proof.Machine
end

