-- ==== Sys2Proof/Machine/Ops.lean ====
section
/-! DEFINITION. The operations the meanings share: the accumulators as a tuple, start_block (R108), appending a byte to BUF
(R132, R133, R85), the acceptance of a command (R130), raising a usage error, which is the machine's one exception (R162), and
the Reset event (R190). A usage error has no return: "There is no return instruction" (R165). -/

namespace Sys2Proof.Machine

/-- What a meaning answers. -/
abbrev Outcome := Host.Outcome State Fault Refusal

/-- (A, B, C, D). -/
def State.quad (s : State) : Quad := ⟨s.A, s.B, s.C, s.D⟩

/-- (AA, BB, CC, DD). -/
def State.savedQuad (s : State) : Quad := ⟨s.AA, s.BB, s.CC, s.DD⟩

/-- (A, B, C, D) <- w. -/
def State.withQuad (s : State) (w : Quad) : State := { s with A := w.a, B := w.b, C := w.c, D := w.d }

/-- start_block: AA..DD <- A..D, T <- 0, SEQ <- OP (R108). -/
def startBlock (s : State) : State :=
  { s with AA := s.A, BB := s.B, CC := s.C, DD := s.D, T := 0, SEQ := .op }

/-- MemWrite(CNT, 1, v), then CNT <- 0 and start_block if CNT was 63, else CNT <- CNT + 1. UPDATE, FINAL and PADZ share it
(R132, R133, R85). -/
def appendByte (v : Byte) (s : State) : State :=
  let stored := memWrite s.BUF s.CNT 1 v.toNat
  if s.CNT = 63 then startBlock { s with BUF := stored, CNT := 0 }
  else { s with BUF := stored, CNT := s.CNT + 1 }

/-- A command's effect happens only in a ready state; in a busy state the command is not accepted and has no effect (R130,
D17). -/
def accept (s effect : State) : Outcome :=
  .next (if s.SEQ = .ready then effect else s)

/-- A micro-step's effect happens only where the sequencer has that micro-step next; elsewhere the engine has no such
transition and the model changes nothing (R135; DESIGN CHOICE, assumption log, entry 8). -/
def whenSelected (selected : Bool) (effect s : State) : Outcome :=
  .next (if selected then effect else s)

/-- raise UsageError(code) (R162): the first cause is kept, ERR is set, nothing else changes. EVERERR is the model's own
record. -/
def raiseUsageError (code : Cause) (s : State) : State :=
  { s with ERRCODE := if s.ERR then s.ERRCODE else code, ERR := true, EVERERR := true }

/-- The Reset event (R190): PHASE, SEQ, FIN, LAST, ERR and ERRCODE take the values of R27; A..D, AA..DD, CNT, LEN and T take
free values, each from a fresh draw; BUF counts as unwritten. What the host drives next and the model's own records stay.
DESIGN CHOICE, unsafe (assumption log, entries 2 and 21): the draws depend on DRAWS alone, so two instances with equal DRAWS hold equal
values in these registers after their Resets, where the spec leaves each instance's values open on its own (R172, R190, R5). -/
def resetEvent (s : State) : State where
  A := Config.freeWord s.DRAWS
  B := Config.freeWord (s.DRAWS + 1)
  C := Config.freeWord (s.DRAWS + 2)
  D := Config.freeWord (s.DRAWS + 3)
  AA := Config.freeWord (s.DRAWS + 4)
  BB := Config.freeWord (s.DRAWS + 5)
  CC := Config.freeWord (s.DRAWS + 6)
  DD := Config.freeWord (s.DRAWS + 7)
  BUF := []
  CNT := Config.freeIndex (s.DRAWS + 8)
  LEN := Config.freeLength (s.DRAWS + 9)
  PHASE := .idle
  SEQ := .ready
  T := Config.freeIndex (s.DRAWS + 10)
  FIN := false
  LAST := false
  ERR := false
  ERRCODE := .none
  PORT := s.PORT
  DRAWS := s.DRAWS + 11
  EVERERR := s.EVERERR

end Sys2Proof.Machine
end

