-- ==== Sys2Proof/Machine/Commands.lean ====
section
/-! DEFINITION. The meanings of the four commands of the host (R131 to R134). Each is one atomic transition, accepted only in a
ready state (R130). -/

namespace Sys2Proof.Machine

/-- RSVD raises UsageError(4) in every PHASE; its data is ignored (R134, R63). -/
def execRsvd (_data : Byte) (s : State) : Outcome :=
  accept s (raiseUsageError .reservedCommand s)

/-- INIT starts a computation, in every PHASE; its data is ignored (R131). BUF, AA..DD and T are unchanged (D28). -/
def execInit (_data : Byte) (s : State) : Outcome :=
  accept s
    { s.withQuad IV with
      LEN := 0, CNT := 0, PHASE := .absorb, FIN := false, LAST := false, ERR := false, ERRCODE := .none }

/-- UPDATE feeds one message byte; after the 64th of a block the compression starts in the same transition (R132). -/
def execUpdate (data : Byte) (s : State) : Outcome :=
  accept s
    (match s.PHASE with
      | .absorb => appendByte data { s with LEN := s.LEN + 8 }
      | .done => raiseUsageError .updateAfterFinal s
      | .idle => raiseUsageError .noComputation s)

/-- FINAL appends the byte 0x80 and goes on to padding, or to the block that byte completes (R133); its data is ignored.
SEQ <- PAD stands unless the byte completes the block, whose start_block then writes SEQ <- OP. -/
def execFinal (_data : Byte) (s : State) : Outcome :=
  accept s
    (match s.PHASE with
      | .absorb => appendByte 0x80 { s with FIN := true, LAST := false, SEQ := .pad }
      | .done => raiseUsageError .finalAfterFinal s
      | .idle => raiseUsageError .noComputation s)

end Sys2Proof.Machine
end

