-- ==== Sys2Proof/Machine/Compression.lean ====
section
/-! DEFINITION. The meanings of the 64 operations (R103 to R107) and of the chaining step (R109). -/

namespace Sys2Proof.Machine

/-- The sequencing of operation i: SEQ <- CHAIN after operation 63, else T <- T + 1 (R107). -/
def sequenceOp (i : BitVec 6) (s : State) : State :=
  if i = 63 then { s with SEQ := .chain } else { s with T := i + 1 }

/-- Operation i with the value f of its group's nonlinear function and the word index j: taken when SEQ = OP and T = i (R103 to
R106, R135). The registers and the sequencer are written in one transition. -/
def execOp (f : Word) (j : BitVec 4) (i : BitVec 6) (s : State) : Outcome :=
  if s.SEQ = .op ∧ s.T = i then
    match M s.BUF j with
    | .error e => .fault e
    | .ok m => .next (sequenceOp i (s.withQuad (rotateRoles s.quad (opSum s.quad f (K i) m) (S i))))
  else .next s

/-- FF: f = (B AND C) OR ((NOT B) AND D), word M[T] (R103). -/
def opFF (i : BitVec 6) (s : State) : Outcome := execOp (F s.B s.C s.D) (gFF i) i s

/-- GG: f = (B AND D) OR (C AND (NOT D)), word M[(5T + 1) mod 16] (R104). -/
def opGG (i : BitVec 6) (s : State) : Outcome := execOp (G s.B s.C s.D) (gGG i) i s

/-- HH: f = B XOR C XOR D, word M[(3T + 5) mod 16] (R105). -/
def opHH (i : BitVec 6) (s : State) : Outcome := execOp (H s.B s.C s.D) (gHH i) i s

/-- II: f = C XOR (B OR (NOT D)), word M[(7T) mod 16] (R106). -/
def opII (i : BitVec 6) (s : State) : Outcome := execOp (I s.B s.C s.D) (gII i) i s

/-! ### FF, operations 0 to 15 (R103) -/

/-- FF.0 (R103). -/
def execFf0 (s : State) : Outcome := opFF 0 s

/-- FF.1 (R103). -/
def execFf1 (s : State) : Outcome := opFF 1 s

/-- FF.2 (R103). -/
def execFf2 (s : State) : Outcome := opFF 2 s

/-- FF.3 (R103). -/
def execFf3 (s : State) : Outcome := opFF 3 s

/-- FF.4 (R103). -/
def execFf4 (s : State) : Outcome := opFF 4 s

/-- FF.5 (R103). -/
def execFf5 (s : State) : Outcome := opFF 5 s

/-- FF.6 (R103). -/
def execFf6 (s : State) : Outcome := opFF 6 s

/-- FF.7 (R103). -/
def execFf7 (s : State) : Outcome := opFF 7 s

/-- FF.8 (R103). -/
def execFf8 (s : State) : Outcome := opFF 8 s

/-- FF.9 (R103). -/
def execFf9 (s : State) : Outcome := opFF 9 s

/-- FF.10 (R103). -/
def execFf10 (s : State) : Outcome := opFF 10 s

/-- FF.11 (R103). -/
def execFf11 (s : State) : Outcome := opFF 11 s

/-- FF.12 (R103). -/
def execFf12 (s : State) : Outcome := opFF 12 s

/-- FF.13 (R103). -/
def execFf13 (s : State) : Outcome := opFF 13 s

/-- FF.14 (R103). -/
def execFf14 (s : State) : Outcome := opFF 14 s

/-- FF.15 (R103). -/
def execFf15 (s : State) : Outcome := opFF 15 s

/-! ### GG, operations 16 to 31 (R104) -/

/-- GG.16 (R104). -/
def execGg16 (s : State) : Outcome := opGG 16 s

/-- GG.17 (R104). -/
def execGg17 (s : State) : Outcome := opGG 17 s

/-- GG.18 (R104). -/
def execGg18 (s : State) : Outcome := opGG 18 s

/-- GG.19 (R104). -/
def execGg19 (s : State) : Outcome := opGG 19 s

/-- GG.20 (R104). -/
def execGg20 (s : State) : Outcome := opGG 20 s

/-- GG.21 (R104). -/
def execGg21 (s : State) : Outcome := opGG 21 s

/-- GG.22 (R104). -/
def execGg22 (s : State) : Outcome := opGG 22 s

/-- GG.23 (R104). -/
def execGg23 (s : State) : Outcome := opGG 23 s

/-- GG.24 (R104). -/
def execGg24 (s : State) : Outcome := opGG 24 s

/-- GG.25 (R104). -/
def execGg25 (s : State) : Outcome := opGG 25 s

/-- GG.26 (R104). -/
def execGg26 (s : State) : Outcome := opGG 26 s

/-- GG.27 (R104). -/
def execGg27 (s : State) : Outcome := opGG 27 s

/-- GG.28 (R104). -/
def execGg28 (s : State) : Outcome := opGG 28 s

/-- GG.29 (R104). -/
def execGg29 (s : State) : Outcome := opGG 29 s

/-- GG.30 (R104). -/
def execGg30 (s : State) : Outcome := opGG 30 s

/-- GG.31 (R104). -/
def execGg31 (s : State) : Outcome := opGG 31 s

/-! ### HH, operations 32 to 47 (R105) -/

/-- HH.32 (R105). -/
def execHh32 (s : State) : Outcome := opHH 32 s

/-- HH.33 (R105). -/
def execHh33 (s : State) : Outcome := opHH 33 s

/-- HH.34 (R105). -/
def execHh34 (s : State) : Outcome := opHH 34 s

/-- HH.35 (R105). -/
def execHh35 (s : State) : Outcome := opHH 35 s

/-- HH.36 (R105). -/
def execHh36 (s : State) : Outcome := opHH 36 s

/-- HH.37 (R105). -/
def execHh37 (s : State) : Outcome := opHH 37 s

/-- HH.38 (R105). -/
def execHh38 (s : State) : Outcome := opHH 38 s

/-- HH.39 (R105). -/
def execHh39 (s : State) : Outcome := opHH 39 s

/-- HH.40 (R105). -/
def execHh40 (s : State) : Outcome := opHH 40 s

/-- HH.41 (R105). -/
def execHh41 (s : State) : Outcome := opHH 41 s

/-- HH.42 (R105). -/
def execHh42 (s : State) : Outcome := opHH 42 s

/-- HH.43 (R105). -/
def execHh43 (s : State) : Outcome := opHH 43 s

/-- HH.44 (R105). -/
def execHh44 (s : State) : Outcome := opHH 44 s

/-- HH.45 (R105). -/
def execHh45 (s : State) : Outcome := opHH 45 s

/-- HH.46 (R105). -/
def execHh46 (s : State) : Outcome := opHH 46 s

/-- HH.47 (R105). -/
def execHh47 (s : State) : Outcome := opHH 47 s

/-! ### II, operations 48 to 63 (R106) -/

/-- II.48 (R106). -/
def execIi48 (s : State) : Outcome := opII 48 s

/-- II.49 (R106). -/
def execIi49 (s : State) : Outcome := opII 49 s

/-- II.50 (R106). -/
def execIi50 (s : State) : Outcome := opII 50 s

/-- II.51 (R106). -/
def execIi51 (s : State) : Outcome := opII 51 s

/-- II.52 (R106). -/
def execIi52 (s : State) : Outcome := opII 52 s

/-- II.53 (R106). -/
def execIi53 (s : State) : Outcome := opII 53 s

/-- II.54 (R106). -/
def execIi54 (s : State) : Outcome := opII 54 s

/-- II.55 (R106). -/
def execIi55 (s : State) : Outcome := opII 55 s

/-- II.56 (R106). -/
def execIi56 (s : State) : Outcome := opII 56 s

/-- II.57 (R106). -/
def execIi57 (s : State) : Outcome := opII 57 s

/-- II.58 (R106). -/
def execIi58 (s : State) : Outcome := opII 58 s

/-- II.59 (R106). -/
def execIi59 (s : State) : Outcome := opII 59 s

/-- II.60 (R106). -/
def execIi60 (s : State) : Outcome := opII 60 s

/-- II.61 (R106). -/
def execIi61 (s : State) : Outcome := opII 61 s

/-- II.62 (R106). -/
def execIi62 (s : State) : Outcome := opII 62 s

/-- II.63 (R106). -/
def execIi63 (s : State) : Outcome := opII 63 s

/-! ### The chaining step -/

/-- What follows a chaining step: READY after a block completed by UPDATE; DONE and READY after the last block; PAD after a
block that FINAL filled without the length field (R109). -/
def afterChain (s : State) : State :=
  if s.FIN = false then { s with SEQ := .ready }
  else if s.LAST = true then { s with PHASE := .done, FIN := false, LAST := false, SEQ := .ready }
  else { s with SEQ := .pad }

/-- CHAIN adds the saved copy AA..DD to A..D, modulo 2^32; taken when SEQ = CHAIN (R109). -/
def execChain (s : State) : Outcome :=
  whenSelected (s.SEQ == .chain) (afterChain (s.withQuad (s.quad.add s.savedQuad))) s

end Sys2Proof.Machine
end

