-- ==== Sys2Proof/Machine/Padding.lean ====
section
/-! DEFINITION. The meanings of the two padding micro-steps (R85, R86). -/

namespace Sys2Proof.Machine

/-- PADZ appends one zero byte; taken when SEQ = PAD and CNT is not 56 (R85). -/
def execPadz (s : State) : Outcome :=
  whenSelected (s.SEQ == .pad && s.CNT != 56) (appendByte 0x00 s) s

/-- PADL writes LEN as eight little-endian bytes at 56, and starts the last block; taken when SEQ = PAD and CNT = 56
(R86). -/
def execPadl (s : State) : Outcome :=
  whenSelected (s.SEQ == .pad && s.CNT == 56)
    (startBlock { s with BUF := memWrite s.BUF 56 8 s.LEN.toNat, CNT := 0, LAST := true }) s

end Sys2Proof.Machine
end

