-- ==== Sys2Proof/Machine/Fetch.lean ====
section
/-! DEFINITION. What the next step of the machine is: the host's input of the step (R23, R130), the selector it or the
sequencer gives (R135), and how a selector is put where the next step finds it. The engine fetches no program (R1): its
commands come from the port, its micro-steps from SEQ, T and CNT. -/

namespace Sys2Proof.Machine

/-- What the host drives during the next step. -/
def State.input (s : State) : PortInput := s.PORT.headD PortInput.idle

/-- That input is used up; the engine does not remember it (R130). -/
def State.shiftInput (s : State) : State := { s with PORT := s.PORT.tail }

/-- The selector of the next step. In a ready state it is the host's command word, if `cmd_valid` = 1; in a busy state it is the
sequencer's, whatever the host presents (R130, R135). -/
def State.selected (s : State) : Option Selector :=
  match s.SEQ with
  | .ready => if s.input.cmdValid then some (.cmd s.input.cmd) else none
  | .op => some (.step s.T)
  | .chain => some .chain
  | .pad => some (.pad s.CNT)

/-- BUF with a zero byte in each of the lowest n places that nothing has written. -/
def fillUnwritten (m : Memory) : Nat → Memory
  | 0 => m
  | n + 1 =>
    let lower := fillUnwritten m n
    match Memory.lookup lower n with
    | some _ => lower
    | none => Memory.insert lower n 0

/-- Put a selector where the next step finds it. A command word: the host presents it next, to a ready engine. An operation
index: the sequencer stands at OP with that T, over a block whose unwritten bytes are zero, since an operation runs only over a
complete block (R56). CHAIN and PAD: the sequencer stands there. The host asserts no Reset in that step (assumption log,
entries 6 and 7). -/
def placeSelector (selector : Selector) (s : State) : State :=
  match selector with
  | .cmd word => { s with SEQ := .ready, PORT := ⟨false, true, word⟩ :: s.PORT }
  | .step index =>
    { s with SEQ := .op, T := index, BUF := fillUnwritten s.BUF 64, PORT := PortInput.idle :: s.PORT }
  | .chain => { s with SEQ := .chain, PORT := PortInput.idle :: s.PORT }
  | .pad cnt => { s with SEQ := .pad, CNT := cnt, PORT := PortInput.idle :: s.PORT }

end Sys2Proof.Machine
end

