-- ==== Sys2Proof/Machine/Step.lean ====
section
/-! DEFINITION. One step of the machine: Reset if the host asserts it, else the instruction selected, else nothing (R7, R130,
R135, R190). -/

namespace Sys2Proof.Machine

/-- One step. Reset wins over a command presented in the same state (R190, R163). A ready engine to which no command is
presented does nothing (R130). Otherwise the selected instruction is one atomic transition. The host's input of the step is
used up in every case. -/
def step (s : State) : Host.Outcome State Fault Refusal :=
  if s.input.reset then .next (resetEvent s.shiftInput)
  else
    match s.selected with
    | none => .next s.shiftInput
    | some selector => exec (decode selector) s.shiftInput

/-- The state with the instruction of the given bits placed so that the very next step runs it; bits the decoder refuses change
nothing (assumption log, entries 6 and 7). -/
def State.withFetchWord (s : State) (nbits w : Nat) : State :=
  match selectorOfBits nbits w with
  | .ok selector => placeSelector selector s
  | .error _ => s

end Sys2Proof.Machine
end

