-- ==== Sys2Proof/Machine/Instances.lean ====
section
/-! DEFINITION. Several engine instances (R172): a bank of any number of separate machines with their own state and ports, which
share nothing (DESIGN CHOICE of its form: assumption log, entry 12). Whether the registers that Reset leaves unspecified agree in two
instances is settled by their DRAWS, which is the model's choice too (entry 21). -/

namespace Sys2Proof.Machine

/-- Instance k of a bank takes a step; no other instance moves. An index beyond the bank names no instance, and nothing
happens. -/
def stepBank (k : Nat) (bank : List State) : Host.Outcome (List State) Fault Refusal :=
  match bank[k]? with
  | none => .next bank
  | some s =>
    match step s with
    | .next s' => .next (bank.set k s')
    | .fault e => .fault e
    | .refused r => .refused r

end Sys2Proof.Machine
end

