-- ==== Sys2Proof/Machine/Digest.lean ====
section
/-! DEFINITION. Digest assembly: LE32, DIGESTBYTES (R120), the DIGEST output (R22, R121), and the host-side hexadecimal form
(R122, R123). -/

namespace Sys2Proof.Machine

/-- LE32(w): w[7:0], w[15:8], w[23:16], w[31:24] (R9). -/
def le32 (w : Word) : List Byte :=
  [w.extractLsb' 0 8, w.extractLsb' 8 8, w.extractLsb' 16 8, w.extractLsb' 24 8]

/-- LE64(w): w[7:0] to w[63:56] (R9). -/
def le64 (w : BitVec 64) : List Byte :=
  [w.extractLsb' 0 8, w.extractLsb' 8 8, w.extractLsb' 16 8, w.extractLsb' 24 8,
   w.extractLsb' 32 8, w.extractLsb' 40 8, w.extractLsb' 48 8, w.extractLsb' 56 8]

/-- DIGESTBYTES(a, b, c, d), 16 bytes (R120). -/
def digestBytes (w : Quad) : List Byte := le32 w.a ++ le32 w.b ++ le32 w.c ++ le32 w.d

/-- The DIGEST output read as bytes: the digest while PHASE = DONE; in every other state its value is unspecified, and the read
is refused (R22, R121, U2; assumption log, entry 4). Reading changes nothing (R47). -/
def State.readDigest (s : State) : Except Refusal (List Byte) :=
  if s.PHASE = .done then .ok (digestBytes s.quad) else .error .digestUnspecified

/-- The DIGEST port as one 128-bit number with DIGEST[0] in bits 7:0, which is {D, C, B, A} (R120). -/
def State.readDigestPort (s : State) : Except Refusal (BitVec 128) :=
  if s.PHASE = .done then .ok (s.D ++ s.C ++ s.B ++ s.A) else .error .digestUnspecified

/-! ### Hexadecimal form, host side -/

/-- The digits of R122, lower case. -/
def hexDigits : List Char :=
  ['0', '1', '2', '3', '4', '5', '6', '7', '8', '9', 'a', 'b', 'c', 'd', 'e', 'f']

/-- The digit of a 4-bit value. -/
def hexDigit (n : BitVec 4) : Char := hexDigits.getD n.toNat '0'

/-- The value of a lower-case hexadecimal digit; no other character has one (R123, N17; assumption log, entry 19). -/
def hexValue (c : Char) : Option (BitVec 4) :=
  (hexDigits.findIdx? (· == c)).map (BitVec.ofNat 4)

/-- to_hex(d): for each byte its high digit, then its low digit (R122). The string is held as its list of characters. R122 defines it for the 16 bytes of
a digest; two digits a byte for a list of any other length is the model's choice (DESIGN CHOICE, assumption log, entry 22). -/
def toHex : List Byte → List Char
  | [] => []
  | v :: rest => hexDigit (v.extractLsb' 4 4) :: hexDigit (v.extractLsb' 0 4) :: toHex rest

/-- from_hex(s): d[k] = 16 * value(s[2k]) + value(s[2k+1]) (R123). R123 defines it for a string of 32 digits. The rest is the model's choice
(DESIGN CHOICE, assumption log, entry 19): on any other even number of lower-case digits the bytes pair by pair, so none at all for the
empty string, and no answer where the string is no sequence of pairs of lower-case digits. -/
def fromHex : List Char → Option (List Byte)
  | [] => some []
  | [_] => none
  | high :: low :: rest =>
    match hexValue high, hexValue low, fromHex rest with
    | some h, some l, some d => some ((h ++ l : BitVec 8) :: d)
    | _, _, _ => none

end Sys2Proof.Machine
end

