-- ==== Sys2Proof/Machine/Reference.lean ====
section
/-! DEFINITION. The pure functions the spec defines beside the machine: the padding function and its blocks (R80 to R82), the
compression of a block (R90, R91, R110), the in-place formulation of the same (R111), and the whole function MD5 (R115). -/

namespace Sys2Proof.Machine

/-! ### Padding -/

/-- z = (55 - n) mod 64, the number of zero bytes (R80). -/
def padZeros (n : Nat) : Nat := ((55 - (n : Int)) % 64).toNat

/-- PAD(m) = m ++ [0x80] ++ zeros(z) ++ LE64((8 n) mod 2^64) (R80, R83). -/
def pad (m : List Byte) : List Byte :=
  m ++ [0x80] ++ List.replicate (padZeros m.length) 0x00 ++ le64 (BitVec.ofNat 64 (8 * m.length))

/-- NB(n) = floor((n + 8) / 64) + 1, the number of blocks (R81). -/
def numBlocks (n : Nat) : Nat := (n + 8) / 64 + 1

/-- BLOCK(m, q) = PAD(m)[64q .. 64q + 64), for q below NB(n) (R82); beyond, the empty list, which is the model's choice (assumption
log, entry 23). -/
def block (m : List Byte) (q : Nat) : List Byte := ((pad m).drop (64 * q)).take 64

/-! ### Compression -/

/-- M[j] of a block: blk[4j] + 2^8 blk[4j+1] + 2^16 blk[4j+2] + 2^24 blk[4j+3] (R91), for a block of 64 bytes. A byte a
shorter list lacks counts as zero, which is the model's choice (assumption log, entry 23). -/
def blockWord (blk : List Byte) (j : BitVec 4) : Word :=
  let byte (k : Nat) : Nat := (blk.getD (4 * j.toNat + k) 0).toNat
  BitVec.ofNat 32 (byte 0 + 2 ^ 8 * byte 1 + 2 ^ 16 * byte 2 + 2 ^ 24 * byte 3)

/-- w_n of R110: the tuple after operations 0 to n - 1. -/
def runOps (words : BitVec 4 → Word) (w : Quad) : Nat → Quad
  | 0 => w
  | n + 1 => opstep (BitVec.ofNat 6 n) (runOps words w n) words

/-- COMPRESS(s, blk), for a blk of 64 bytes (R90, R110; for other lists: assumption log, entry 23). -/
def compress (w : Quad) (blk : List Byte) : Quad := w.add (runOps (blockWord blk) w 64)

/-- The fixed register P[x] of the in-place formulation (R111). -/
def Quad.get (p : Quad) (x : BitVec 2) : Word :=
  if x = 0 then p.a else if x = 1 then p.b else if x = 2 then p.c else p.d

/-- P[x] <- v. -/
def Quad.set (p : Quad) (x : BitVec 2) (v : Word) : Quad :=
  if x = 0 then { p with a := v } else if x = 1 then { p with b := v } else if x = 2 then { p with c := v }
  else { p with d := v }

/-- The register in a role before operation i: A is P[(-i) mod 4], B P[(1-i) mod 4], C P[(2-i) mod 4], D P[(3-i) mod 4]
(R111). -/
def roleIndex (role : BitVec 2) (i : BitVec 6) : BitVec 2 := role - i.extractLsb' 0 2

/-- One operation in place (R111). -/
def opstepInPlace (i : BitVec 6) (p : Quad) (words : BitVec 4 → Word) : Quad :=
  let x := p.get (roleIndex 0 i)
  let y := p.get (roleIndex 1 i)
  let z := p.get (roleIndex 2 i)
  let w := p.get (roleIndex 3 i)
  p.set (roleIndex 0 i) (y + rotl32 (x + NL i y z w + K i + words (g i)) (S i))

/-- The fixed registers after operations 0 to n - 1 in place. -/
def runOpsInPlace (words : BitVec 4 → Word) (p : Quad) : Nat → Quad
  | 0 => p
  | n + 1 => opstepInPlace (BitVec.ofNat 6 n) (runOpsInPlace words p n) words

/-! ### The whole function -/

/-- s_q of R115: IV folded through the first q blocks of the padded message. -/
def chainValue (m : List Byte) : Nat → Quad
  | 0 => IV
  | q + 1 => compress (chainValue m q) (block m q)

/-- MD5(m) (R115). -/
def md5 (m : List Byte) : List Byte := digestBytes (chainValue m (numBlocks m.length))

end Sys2Proof.Machine
end

