-- ==== Sys2Proof/Machine/Schedule.lean ====
section
/-! DEFINITION. The complete schedule of R113, one row per operation, written out as the spec prints it: the engine's fixed
"microprogram". The meanings compute the same values from R96 to R99; Laws/Schedule.lean proves that they agree. -/

namespace Sys2Proof.Machine

/-- A row of R113: the operation, its index i, its word index g(i), its rotation S[i], its constant K[i]. -/
structure ScheduleRow where
  instr : Instr
  i : BitVec 6
  g : BitVec 4
  s : Nat
  k : Word
  deriving DecidableEq, Repr

/-- Operations 0 to 15 (R113). -/
def ffSchedule : List ScheduleRow :=
  [⟨.ff0, 0, 0, 7, 0xd76aa478⟩,
   ⟨.ff1, 1, 1, 12, 0xe8c7b756⟩,
   ⟨.ff2, 2, 2, 17, 0x242070db⟩,
   ⟨.ff3, 3, 3, 22, 0xc1bdceee⟩,
   ⟨.ff4, 4, 4, 7, 0xf57c0faf⟩,
   ⟨.ff5, 5, 5, 12, 0x4787c62a⟩,
   ⟨.ff6, 6, 6, 17, 0xa8304613⟩,
   ⟨.ff7, 7, 7, 22, 0xfd469501⟩,
   ⟨.ff8, 8, 8, 7, 0x698098d8⟩,
   ⟨.ff9, 9, 9, 12, 0x8b44f7af⟩,
   ⟨.ff10, 10, 10, 17, 0xffff5bb1⟩,
   ⟨.ff11, 11, 11, 22, 0x895cd7be⟩,
   ⟨.ff12, 12, 12, 7, 0x6b901122⟩,
   ⟨.ff13, 13, 13, 12, 0xfd987193⟩,
   ⟨.ff14, 14, 14, 17, 0xa679438e⟩,
   ⟨.ff15, 15, 15, 22, 0x49b40821⟩]

/-- Operations 16 to 31 (R113). -/
def ggSchedule : List ScheduleRow :=
  [⟨.gg16, 16, 1, 5, 0xf61e2562⟩,
   ⟨.gg17, 17, 6, 9, 0xc040b340⟩,
   ⟨.gg18, 18, 11, 14, 0x265e5a51⟩,
   ⟨.gg19, 19, 0, 20, 0xe9b6c7aa⟩,
   ⟨.gg20, 20, 5, 5, 0xd62f105d⟩,
   ⟨.gg21, 21, 10, 9, 0x02441453⟩,
   ⟨.gg22, 22, 15, 14, 0xd8a1e681⟩,
   ⟨.gg23, 23, 4, 20, 0xe7d3fbc8⟩,
   ⟨.gg24, 24, 9, 5, 0x21e1cde6⟩,
   ⟨.gg25, 25, 14, 9, 0xc33707d6⟩,
   ⟨.gg26, 26, 3, 14, 0xf4d50d87⟩,
   ⟨.gg27, 27, 8, 20, 0x455a14ed⟩,
   ⟨.gg28, 28, 13, 5, 0xa9e3e905⟩,
   ⟨.gg29, 29, 2, 9, 0xfcefa3f8⟩,
   ⟨.gg30, 30, 7, 14, 0x676f02d9⟩,
   ⟨.gg31, 31, 12, 20, 0x8d2a4c8a⟩]

/-- Operations 32 to 47 (R113). -/
def hhSchedule : List ScheduleRow :=
  [⟨.hh32, 32, 5, 4, 0xfffa3942⟩,
   ⟨.hh33, 33, 8, 11, 0x8771f681⟩,
   ⟨.hh34, 34, 11, 16, 0x6d9d6122⟩,
   ⟨.hh35, 35, 14, 23, 0xfde5380c⟩,
   ⟨.hh36, 36, 1, 4, 0xa4beea44⟩,
   ⟨.hh37, 37, 4, 11, 0x4bdecfa9⟩,
   ⟨.hh38, 38, 7, 16, 0xf6bb4b60⟩,
   ⟨.hh39, 39, 10, 23, 0xbebfbc70⟩,
   ⟨.hh40, 40, 13, 4, 0x289b7ec6⟩,
   ⟨.hh41, 41, 0, 11, 0xeaa127fa⟩,
   ⟨.hh42, 42, 3, 16, 0xd4ef3085⟩,
   ⟨.hh43, 43, 6, 23, 0x04881d05⟩,
   ⟨.hh44, 44, 9, 4, 0xd9d4d039⟩,
   ⟨.hh45, 45, 12, 11, 0xe6db99e5⟩,
   ⟨.hh46, 46, 15, 16, 0x1fa27cf8⟩,
   ⟨.hh47, 47, 2, 23, 0xc4ac5665⟩]

/-- Operations 48 to 63 (R113). -/
def iiSchedule : List ScheduleRow :=
  [⟨.ii48, 48, 0, 6, 0xf4292244⟩,
   ⟨.ii49, 49, 7, 10, 0x432aff97⟩,
   ⟨.ii50, 50, 14, 15, 0xab9423a7⟩,
   ⟨.ii51, 51, 5, 21, 0xfc93a039⟩,
   ⟨.ii52, 52, 12, 6, 0x655b59c3⟩,
   ⟨.ii53, 53, 3, 10, 0x8f0ccc92⟩,
   ⟨.ii54, 54, 10, 15, 0xffeff47d⟩,
   ⟨.ii55, 55, 1, 21, 0x85845dd1⟩,
   ⟨.ii56, 56, 8, 6, 0x6fa87e4f⟩,
   ⟨.ii57, 57, 15, 10, 0xfe2ce6e0⟩,
   ⟨.ii58, 58, 6, 15, 0xa3014314⟩,
   ⟨.ii59, 59, 13, 21, 0x4e0811a1⟩,
   ⟨.ii60, 60, 4, 6, 0xf7537e82⟩,
   ⟨.ii61, 61, 11, 10, 0xbd3af235⟩,
   ⟨.ii62, 62, 2, 15, 0x2ad7d2bb⟩,
   ⟨.ii63, 63, 9, 21, 0xeb86d391⟩]

/-- The whole table of R113. -/
def schedule : List ScheduleRow := ffSchedule ++ ggSchedule ++ hhSchedule ++ iiSchedule

end Sys2Proof.Machine
end

