-- ==== Sys2Proof/Machine/Script.lean ====
section
/-! DEFINITION. The host's side of a computation: running the engine to a ready state (R130), scripts (R67) and the
pseudo-commands of the software surface (R68). -/

namespace Sys2Proof.Machine

/-- What the host drives for a script line (R67): the Reset event, or a command word. A line that is not well formed has no
word, and the host drives nothing. -/
def ScriptLine.input (line : ScriptLine) : PortInput :=
  match line with
  | .reset => ⟨true, false, 0⟩
  | other =>
    match other.word with
    | some word => ⟨false, true, word⟩
    | none => PortInput.idle

/-- The engine takes micro-steps until it is ready, at most as many as given, while the host presents nothing. -/
def runToReady : Nat → State → Outcome
  | 0, s => .next s
  | fuel + 1, s =>
    if s.SEQ = .ready then .next s
    else
      match step s with
      | .next s' => runToReady fuel s'
      | .fault e => .fault e
      | .refused r => .refused r

/-- At least as many micro-steps as any busy state takes to be ready again: 65 of a compression, then the 194 that R140 counts
for a FINAL accepted at CNT = 56 (Laws/Script.lean, `runToReady_answers_ready`). -/
def busyBound : Nat := 259

/-- A ready engine is driven exactly the line for one step, and then runs to ready again. -/
def driveLine (line : ScriptLine) (s : State) : Outcome :=
  match step { s with PORT := [ScriptLine.input line] } with
  | .next s' => runToReady busyBound s'
  | .fault e => .fault e
  | .refused r => .refused r

/-- One script line: "executed only when the engine is ready: between lines the engine runs micro-steps until RDY = 1" (R67), RESET
too. A busy engine is first run to ready while the host presents nothing (assumption log, entry 15). -/
def runLine (line : ScriptLine) (s : State) : Outcome :=
  match runToReady busyBound { s with PORT := [] } with
  | .next ready => driveLine line ready
  | .fault e => .fault e
  | .refused r => .refused r

/-- A script, line by line (R67). -/
def runScript : List ScriptLine → State → Outcome
  | [], s => .next s
  | line :: rest, s =>
    match runLine line s with
    | .next s' => runScript rest s'
    | .fault e => .fault e
    | .refused r => .refused r

/-- `new_streaming_computation()` expands to INIT (R68). -/
def newStreamingComputation : List ScriptLine := [.init]

/-- `update(handle, s)` expands to one UPDATE a byte, none when s is empty (R68). -/
def updateScript (s : List Byte) : List ScriptLine := s.map fun v => .update (.number v.toNat)

/-- `finalize(handle)` expands to FINAL; the wait is the run to ready (R68). -/
def finalizeScript : List ScriptLine := [.final]

/-- `hash(s)` (R68). -/
def hashScript (s : List Byte) : List ScriptLine := newStreamingComputation ++ updateScript s ++ finalizeScript

/-- The streaming form of the same: one `update` for each chunk (R137). -/
def streamingScript (chunks : List (List Byte)) : List ScriptLine :=
  newStreamingComputation ++ chunks.flatMap updateScript ++ finalizeScript

/-- Run a script and read DIGEST; none where the run stops or DIGEST may not be read (R68, R194). -/
def runAndRead (script : List ScriptLine) (s : State) : Option (List Byte) :=
  match runScript script s with
  | .next s' =>
    match s'.readDigest with
    | .ok d => some d
    | .error _ => none
  | .fault _ => none
  | .refused _ => none

end Sys2Proof.Machine
end

