-- ==== Sys2Proof/Safety.lean ====
section
/-! DEFINITION. What a good state is: the invariants of R25, R27, R56 and R136, in the terms the statements use. -/

namespace Sys2Proof

open Sys2Proof.Machine

/-- Every byte of BUF below an index has been written. -/
abbrev Safety.writtenBelow (s : State) (n : Nat) : Prop := ∀ k < n, (Memory.lookup s.BUF k).isSome = true

/-- The pairs (PHASE, SEQ) that R136 lists as reachable. -/
def Safety.legalPair (p : Phase) (q : Seq) : Bool :=
  match p, q with
  | .idle, .ready => true
  | .absorb, _ => true
  | .done, .ready => true
  | _, _ => false

/-- The invariant of the sequencer, the counters and the buffer. -/
structure Safety.Inv (s : State) : Prop where
  /-- BUF is in its canonical form. -/
  canonical : s.BUF.wf = true
  /-- Only the pairs of R136, R25 (d). -/
  pair : Safety.legalPair s.PHASE s.SEQ = true
  /-- FIN = 0 and LAST = 0 in a ready state, R25 (a). -/
  readyFlags : s.SEQ = .ready → s.FIN = false ∧ s.LAST = false
  /-- FIN = 1 and LAST = 0 in state PAD, R25 (e). -/
  padFlags : s.SEQ = .pad → s.FIN = true ∧ s.LAST = false
  /-- LAST = 1 implies FIN = 1, R25 (e). -/
  lastFin : s.LAST = true → s.FIN = true
  /-- CNT = LEN[8:3] while absorbing, in a ready state and in a block completed by UPDATE, R25 (b). -/
  fill : s.PHASE = .absorb → s.FIN = false → s.CNT = s.LEN.extractLsb' 3 6
  /-- LEN[2:0] = 0 in a computation, R15. -/
  wholeBytes : s.PHASE ≠ .idle → s.LEN.extractLsb' 0 3 = 0
  /-- CNT = 0 in a finished computation, R25 (c). -/
  doneCount : s.PHASE = .done → s.CNT = 0
  /-- CNT = 0 during a compression. -/
  blockCount : s.SEQ = .op ∨ s.SEQ = .chain → s.CNT = 0
  /-- The bytes below CNT have been written while a block is being filled, R56. -/
  filled : s.PHASE = .absorb → s.SEQ = .ready ∨ s.SEQ = .pad → Safety.writtenBelow s s.CNT.toNat
  /-- Every byte of the block has been written while it is compressed, R56. -/
  complete : s.SEQ = .op → Safety.writtenBelow s 64

/-- ERR and ERRCODE agree: a cause is recorded exactly while ERR is set (R161, R162), and the model's own record covers it. -/
structure Safety.ErrInv (s : State) : Prop where
  cause : s.ERR = true ↔ s.ERRCODE ≠ .none
  recorded : s.ERR = true → s.EVERERR = true

/-- The command the engine accepts in the next step, if it accepts one: the host asserts no Reset, the engine is ready and a
command is presented (R130, R190). -/
def Safety.accepted (s : State) : Option Instr :=
  if s.input.reset = false ∧ s.SEQ = .ready ∧ s.input.cmdValid = true then some (decodeCmd s.input.cmd) else none

/-- The next step accepts INIT. -/
def Safety.AcceptsInit (s : State) : Prop := ∃ data, Safety.accepted s = some (.init data)

/-- The table of R161: the cause a command raises in a phase; none where it raises nothing. -/
def Safety.causeOf (i : Instr) (p : Phase) : Option Cause :=
  match i, p with
  | .update _, .done => some .updateAfterFinal
  | .final _, .done => some .finalAfterFinal
  | .update _, .idle => some .noComputation
  | .final _, .idle => some .noComputation
  | .rsvd _, _ => some .reservedCommand
  | _, _ => none

/-- The transition table of R136: where (PHASE, SEQ) goes in the next step. -/
def Safety.nextPair (s : State) : Phase × Seq :=
  if s.input.reset = true then (.idle, .ready)
  else
    match s.SEQ with
    | .ready =>
      match Safety.accepted s with
      | some (.init _) => (.absorb, .ready)
      | some (.update _) =>
        if s.PHASE = .absorb then (.absorb, if s.CNT = 63 then .op else .ready) else (s.PHASE, .ready)
      | some (.final _) =>
        if s.PHASE = .absorb then (.absorb, if s.CNT = 63 then .op else .pad) else (s.PHASE, .ready)
      | _ => (s.PHASE, .ready)
    | .op => (s.PHASE, if s.T = 63 then .chain else .op)
    | .chain =>
      if s.FIN = false then (s.PHASE, .ready)
      else if s.LAST = true then (.done, .ready)
      else (s.PHASE, .pad)
    | .pad => (s.PHASE, if s.CNT = 63 ∨ s.CNT = 56 then .op else .pad)

/-- The state without its error flags. -/
def Safety.eraseErrors (s : State) : State := { s with ERR := false, ERRCODE := .none, EVERERR := false }

/-- Two outcomes agree but for the error flags. -/
def Safety.agreeButErrors (x y : Outcome) : Prop :=
  match x, y with
  | .next s, .next t => Safety.eraseErrors s = Safety.eraseErrors t
  | .fault e, .fault f => e = f
  | .refused q, .refused r => q = r
  | _, _ => False

/-- The host asserts no Reset in any input it has lined up. -/
abbrev Safety.NoReset (s : State) : Prop := ∀ p ∈ s.PORT, p.reset = false

end Sys2Proof
end

