-- ==== Sys2Proof/Certificates/Slice0/Obligations.lean ====
section
/-! DEFINITION. The statements for the provers. Each docstring names the rule of spec/ it formalises. -/

open Sys2Proof Sys2Proof.Machine

/-! ### Encoding -/

/-- Decoding an encoded instruction gives it back, with every operand; encoding what a command word or an operation index decodes
to gives that word or index back (R61, R65). -/
def Obligations.InstructionEncodingsRoundTrip : Prop :=
  (∀ i : Instr, decode (encode i) = i) ∧
  (∀ word : BitVec 10, encode (decode (.cmd word)) = .cmd word) ∧
  (∀ index : BitVec 6, encode (decode (.step index)) = .step index)

/-- The opcode map of R61 by its match and mask, with the fields of R60. That 16 raw bits are read as a command word, and that raw
bits from 1024 on are refused, is the model's choice (assumption log, entry 7). -/
def Obligations.CommandWordsDecodeByOpField : Prop :=
  (∀ word : BitVec 10,
    (word &&& 0x300 = 0x000 → decode (.cmd word) = .rsvd (word.extractLsb' 0 8)) ∧
    (word &&& 0x300 = 0x100 → decode (.cmd word) = .init (word.extractLsb' 0 8)) ∧
    (word &&& 0x300 = 0x200 → decode (.cmd word) = .update (word.extractLsb' 0 8)) ∧
    (word &&& 0x300 = 0x300 → decode (.cmd word) = .final (word.extractLsb' 0 8)) ∧
    (word &&& 0x300 = 0x000 ∨ word &&& 0x300 = 0x100 ∨ word &&& 0x300 = 0x200 ∨ word &&& 0x300 = 0x300)) ∧
  (∀ w : Nat, w < 1024 → decodeTableWord 16 w = some (decode (.cmd (BitVec.ofNat 10 w)))) ∧
  (∀ w : Nat, 1024 ≤ w → decodeTableWord 16 w = none)

/-- Every operation of the schedule is selected by its index, and state PAD selects by CNT (R65, R113, R135). -/
def Obligations.SequencerSelectsScheduledOperation : Prop :=
  (∀ row ∈ schedule, decode (.step row.i) = row.instr) ∧
  decode .chain = .chain ∧
  (∀ cnt : BitVec 6, decode (.pad cnt) = if cnt = 56 then .padl else .padz)

/-- A few words written out from the encodings of R60, R61 and R65. -/
def Obligations.SampleWordsDecode : Prop :=
  decode (.cmd 0b0001010101#10) = .rsvd 0x55 ∧
  decode (.cmd 0b0100000000#10) = .init 0x00 ∧
  decode (.cmd 0b1001101000#10) = .update 0x68 ∧
  decode (.cmd 0b1100000000#10) = .final 0x00 ∧
  decode (.step 0b000111#6) = .ff7 ∧
  decode (.step 0b011010#6) = .gg26 ∧
  decode (.step 0b100001#6) = .hh33 ∧
  decode (.step 0b111110#6) = .ii62

/-- The data field of INIT, FINAL and RSVD is ignored, and the canonical words have it zero (R62). -/
def Obligations.IgnoredDataFieldSelectsSameBehaviour : Prop :=
  (∀ (data : Byte) (s : State),
    exec (decode (.cmd (0b01#2 ++ data))) s = exec (decode (.cmd 0x100)) s ∧
    exec (decode (.cmd (0b11#2 ++ data))) s = exec (decode (.cmd 0x300)) s ∧
    exec (decode (.cmd (0b00#2 ++ data))) s = exec (decode (.cmd 0x000)) s) ∧
  (∀ data : Byte, (Instr.init data).canonical = true ↔ data = 0) ∧
  (∀ data : Byte, (Instr.final data).canonical = true ↔ data = 0) ∧
  (∀ data : Byte, (Instr.rsvd data).canonical = true ↔ data = 0) ∧
  encode (.init 0) = .cmd 0x100 ∧ encode (.final 0) = .cmd 0x300

/-! ### Reset and the step -/

/-- What the spec gives for the state after Reset (R27), and that no byte of BUF can be read there. -/
def Obligations.ResetStateAsSpecified : Prop :=
  State.reset.PHASE = .idle ∧ State.reset.SEQ = .ready ∧ State.reset.FIN = false ∧ State.reset.LAST = false ∧
  State.reset.ERR = false ∧ State.reset.ERRCODE = .none ∧ State.reset.status = 0x01 ∧
  State.reset.readDigest = .error .digestUnspecified ∧
  (∀ k : BitVec 6, bufRead State.reset.BUF k = .error (.bufUnwritten k.toNat))

/-- The Reset event is enabled in every state, wins over a command, leaves the values R27 gives, and lets nothing of what the
registers held survive: the state after it depends only on the model's own fields (R190). The form of the unspecified values is the
model's: free values by the draw counter (assumption log, entries 2 and 21) and a BUF with nothing written (entry 3). -/
def Obligations.ResetEventAbandonsEverything : Prop :=
  (∀ s : State, s.input.reset = true → ∃ t, step s = .next t ∧
    t.PHASE = .idle ∧ t.SEQ = .ready ∧ t.FIN = false ∧ t.LAST = false ∧ t.ERR = false ∧ t.ERRCODE = .none ∧
    t.status = 0x01 ∧ t.readDigest = .error .digestUnspecified ∧
    (∀ k : BitVec 6, bufRead t.BUF k = .error (.bufUnwritten k.toNat)) ∧ t.PORT = s.PORT.tail) ∧
  (∀ s u : State, s.input.reset = true → u.input.reset = true → s.PORT.tail = u.PORT.tail → s.DRAWS = u.DRAWS →
    s.EVERERR = u.EVERERR → step s = step u)

/-- A step without Reset is exec of the instruction selected, at the state whose host input is used up; what is selected is the
host's command in a ready state, else the sequencer's micro-step (R130, R135). -/
def Obligations.StepRunsSelectedInstruction : Prop :=
  ∀ s : State, s.input.reset = false →
    (∀ selector, s.selected = some selector → step s = exec (decode selector) { s with PORT := s.PORT.tail }) ∧
    (s.SEQ = .ready → s.input.cmdValid = true → s.selected = some (.cmd s.input.cmd)) ∧
    (s.SEQ = .ready → s.input.cmdValid = false → s.selected = none) ∧
    (s.SEQ = .op → s.selected = some (.step s.T)) ∧
    (s.SEQ = .chain → s.selected = some .chain) ∧
    (s.SEQ = .pad → s.selected = some (.pad s.CNT))

/-- The handshake: a command is accepted exactly in a ready state; in a busy state it has no effect and is not remembered; no
command in a ready state does nothing (R130). -/
def Obligations.CommandsAcceptedExactlyWhenReady : Prop :=
  (∀ (s : State) (word : BitVec 10) (rest : List PortInput), s.SEQ = .ready →
    step { s with PORT := ⟨false, true, word⟩ :: rest } = exec (decode (.cmd word)) { s with PORT := rest }) ∧
  (∀ (s : State) (word : BitVec 10) (rest : List PortInput), s.SEQ = .ready →
    step { s with PORT := ⟨false, false, word⟩ :: rest } = .next { s with PORT := rest }) ∧
  (∀ (s : State) (valid : Bool) (word : BitVec 10) (rest : List PortInput), s.SEQ ≠ .ready →
    step { s with PORT := ⟨false, valid, word⟩ :: rest } = step { s with PORT := PortInput.idle :: rest } ∧
    ∀ t, step { s with PORT := ⟨false, valid, word⟩ :: rest } = .next t → t.PORT = rest)

/-- The engine's micro-step: the instruction by SEQ, T and CNT; it reads no port and changes no error flag and no length
(R135). -/
def Obligations.MicroStepDispatch : Prop :=
  ∀ s : State, s.input.reset = false → s.SEQ ≠ .ready →
    (∀ row ∈ schedule, s.SEQ = .op → s.T = row.i → step s = exec row.instr s.shiftInput) ∧
    (s.SEQ = .chain → step s = exec .chain s.shiftInput) ∧
    (s.SEQ = .pad → s.CNT = 56 → step s = exec .padl s.shiftInput) ∧
    (s.SEQ = .pad → s.CNT ≠ 56 → step s = exec .padz s.shiftInput) ∧
    (∀ t, step s = .next t →
      t.ERR = s.ERR ∧ t.ERRCODE = s.ERRCODE ∧ t.EVERERR = s.EVERERR ∧ t.LEN = s.LEN)

/-- An instruction that is not enabled changes nothing: for a command this is R130; for a micro-step it is the model's choice
(assumption log, entry 8), which no step reaches. -/
def Obligations.InstructionNotEnabledChangesNothing : Prop :=
  ∀ s : State,
    (s.SEQ ≠ .ready → ∀ data : Byte,
      exec (.rsvd data) s = .next s ∧ exec (.init data) s = .next s ∧ exec (.update data) s = .next s ∧
      exec (.final data) s = .next s) ∧
    (∀ row ∈ schedule, (s.SEQ ≠ .op ∨ s.T ≠ row.i) → exec row.instr s = .next s) ∧
    (s.SEQ ≠ .chain → exec .chain s = .next s) ∧
    ((s.SEQ ≠ .pad ∨ s.CNT = 56) → exec .padz s = .next s) ∧
    ((s.SEQ ≠ .pad ∨ s.CNT ≠ 56) → exec .padl s = .next s)

/-- The placed word of a command or an operation is what the very next step runs (the model's own loader, assumption log, entry
6). -/
def Obligations.PlacedWordRunsNext : Prop :=
  (∀ (s : State) (w : Nat), w < 1024 →
    step (s.withFetchWord 16 w) = exec (decode (.cmd (BitVec.ofNat 10 w))) { s with SEQ := .ready }) ∧
  (∀ (s : State) (w : Nat), w < 64 →
    ∃ u, step (s.withFetchWord 8 w) = exec (decode (.step (BitVec.ofNat 6 w))) u ∧
      u.SEQ = .op ∧ u.T = BitVec.ofNat 6 w ∧ u.quad = s.quad ∧
      (∀ k : BitVec 6, ∀ v, bufRead s.BUF k = .ok v → bufRead u.BUF k = .ok v) ∧
      (∃ t, step (s.withFetchWord 8 w) = .next t))

/-! ### Commands -/

/-- INIT in a ready state, whatever the phase (R131). -/
def Obligations.InitStartsComputation : Prop :=
  ∀ (data : Byte) (s : State), s.SEQ = .ready →
    ∃ t, exec (.init data) s = .next t ∧
      t = { s with
        A := 0x67452301, B := 0xefcdab89, C := 0x98badcfe, D := 0x10325476, LEN := 0, CNT := 0, PHASE := .absorb,
        FIN := false, LAST := false, ERR := false, ERRCODE := .none } ∧
      exec (.init data) t = .next t

/-- UPDATE in a ready state: in ABSORB it completes, whatever CNT is: the byte is stored and counted, and the 64th byte starts the
compression; after finalization and before INIT it is a usage error (R132, enabled as R130 says). -/
def Obligations.UpdateAbsorbsOneByte : Prop :=
  ∀ (data : Byte) (s : State), s.SEQ = .ready →
    (s.PHASE = .absorb → ∃ t, exec (.update data) s = .next t ∧
      bufRead t.BUF s.CNT = .ok data ∧ t.LEN = s.LEN + 8 ∧ t.CNT = s.CNT + 1 ∧ t.PHASE = .absorb ∧
      t.SEQ = if s.CNT = 63 then .op else .ready) ∧
    (s.PHASE = .absorb → s.CNT ≠ 63 →
      exec (.update data) s = .next { s with
        BUF := memWrite s.BUF s.CNT 1 data.toNat, LEN := s.LEN + 8, CNT := s.CNT + 1 }) ∧
    (s.PHASE = .absorb → s.CNT = 63 →
      exec (.update data) s = .next { s with
        BUF := memWrite s.BUF 63 1 data.toNat, LEN := s.LEN + 8, CNT := 0,
        AA := s.A, BB := s.B, CC := s.C, DD := s.D, T := 0, SEQ := .op }) ∧
    (s.PHASE = .done →
      exec (.update data) s = .next { s with
        ERRCODE := if s.ERR then s.ERRCODE else .updateAfterFinal, ERR := true, EVERERR := true }) ∧
    (s.PHASE = .idle →
      exec (.update data) s = .next { s with
        ERRCODE := if s.ERR then s.ERRCODE else .noComputation, ERR := true, EVERERR := true })

/-- FINAL in a ready state: in ABSORB it completes, whatever CNT is: the byte 0x80 is stored, not counted in LEN, and padding or the
completed block follows; after finalization and before INIT it is a usage error (R133, enabled as R130 says). -/
def Obligations.FinalStartsPadding : Prop :=
  ∀ (data : Byte) (s : State), s.SEQ = .ready →
    (s.PHASE = .absorb → ∃ t, exec (.final data) s = .next t ∧
      bufRead t.BUF s.CNT = .ok 0x80 ∧ t.LEN = s.LEN ∧ t.CNT = s.CNT + 1 ∧ t.PHASE = .absorb ∧
      t.FIN = true ∧ t.LAST = false ∧ t.SEQ = if s.CNT = 63 then .op else .pad) ∧
    (s.PHASE = .absorb → s.CNT ≠ 63 →
      exec (.final data) s = .next { s with
        FIN := true, LAST := false, BUF := memWrite s.BUF s.CNT 1 0x80, CNT := s.CNT + 1, SEQ := .pad }) ∧
    (s.PHASE = .absorb → s.CNT = 63 →
      exec (.final data) s = .next { s with
        FIN := true, LAST := false, BUF := memWrite s.BUF 63 1 0x80, CNT := 0,
        AA := s.A, BB := s.B, CC := s.C, DD := s.D, T := 0, SEQ := .op }) ∧
    (s.PHASE = .done →
      exec (.final data) s = .next { s with
        ERRCODE := if s.ERR then s.ERRCODE else .finalAfterFinal, ERR := true, EVERERR := true }) ∧
    (s.PHASE = .idle →
      exec (.final data) s = .next { s with
        ERRCODE := if s.ERR then s.ERRCODE else .noComputation, ERR := true, EVERERR := true })

/-- RSVD in a ready state raises UsageError(4) in every phase and changes nothing else (R134). -/
def Obligations.ReservedCommandRaisesUsageError : Prop :=
  (∀ data : Byte, decode (.cmd (0b00#2 ++ data)) = .rsvd data) ∧
  ∀ (data : Byte) (s : State), s.SEQ = .ready →
    exec (.rsvd data) s = .next { s with
      ERRCODE := if s.ERR then s.ERRCODE else .reservedCommand, ERR := true, EVERERR := true }

/-! ### Usage errors -/

/-- A command that the table of R161 lists raises exactly its cause: the first cause is kept, ERR is set, nothing else changes but
the model's own record, and STATUS shows it (R161, R162). -/
def Obligations.UsageErrorRecordsFirstCause : Prop :=
  ∀ (i : Instr) (s : State) (code : Cause), s.SEQ = .ready → Safety.causeOf i s.PHASE = some code →
    ∃ t, exec i s = .next t ∧
      t = { s with ERRCODE := if s.ERR then s.ERRCODE else code, ERR := true, EVERERR := true } ∧
      t.readDigest = s.readDigest ∧
      t.status.getLsbD 2 = true ∧
      (s.ERR = false → t.status.extractLsb' 5 3 =
        match code with
        | .none => 0 | .updateAfterFinal => 1 | .finalAfterFinal => 2 | .noComputation => 3 | .reservedCommand => 4)

/-- ERR is raised only by a command that is accepted and that the table of R161 lists for the phase (R160, R161). -/
def Obligations.UsageErrorsOnlyFromRejectedCommands : Prop :=
  ∀ s t : State, step s = .next t → s.ERR = false → t.ERR = true →
    ∃ i code, Safety.accepted s = some i ∧ Safety.causeOf i s.PHASE = some code ∧ t.ERRCODE = code

/-- ERR and ERRCODE stay from the first usage error until INIT is accepted or Reset, and both clear them (R165). -/
def Obligations.ErrorFlagClearedOnlyByInitAndReset : Prop :=
  ∀ s t : State, step s = .next t →
    (s.ERR = true → s.input.reset = false → ¬ Safety.AcceptsInit s → t.ERR = true ∧ t.ERRCODE = s.ERRCODE) ∧
    (s.input.reset = true ∨ Safety.AcceptsInit s → t.ERR = false ∧ t.ERRCODE = .none)

/-- No step behaves differently because of the error flags: from two states that differ in them alone, the outcomes differ in them
alone (R20). -/
def Obligations.ErrorFlagsInfluenceNothingElse : Prop :=
  ∀ s u : State, Safety.eraseErrors s = Safety.eraseErrors u → Safety.agreeButErrors (step s) (step u)

/-! ### Operations -/

/-- FF, operations 0 to 15: the index selects the group, the word index, the rotation and the constant, as R113 lists them, and
the four registers after it (R103). -/
def Obligations.FfOperationResult : Prop :=
  (∀ row ∈ ffSchedule,
    decode (.step row.i) = row.instr ∧ row.i.extractLsb' 4 2 = 0 ∧ row.g.toNat = row.i.toNat ∧
    S row.i = row.s ∧ row.s ∈ [7, 12, 17, 22] ∧ K row.i = row.k ∧ row.k ≠ 0) ∧
  (∀ (i : BitVec 6), i.extractLsb' 4 2 = 0 → ∃ row ∈ ffSchedule, row.i = i) ∧
  ∀ row ∈ ffSchedule, ∀ (s : State) (m : Word), s.SEQ = .op → s.T = row.i → M s.BUF row.g = .ok m →
    exec row.instr s = .next { s with
      A := s.D
      B := s.B + rotl32 (s.A + ((s.B &&& s.C) ||| (~~~s.B &&& s.D)) + row.k + m) row.s
      C := s.B
      D := s.C
      T := row.i + 1 }

/-- GG, operations 16 to 31 (R104). -/
def Obligations.GgOperationResult : Prop :=
  (∀ row ∈ ggSchedule,
    decode (.step row.i) = row.instr ∧ row.i.extractLsb' 4 2 = 1 ∧ row.g.toNat = (5 * row.i.toNat + 1) % 16 ∧
    S row.i = row.s ∧ row.s ∈ [5, 9, 14, 20] ∧ K row.i = row.k ∧ row.k ≠ 0) ∧
  (∀ (i : BitVec 6), i.extractLsb' 4 2 = 1 → ∃ row ∈ ggSchedule, row.i = i) ∧
  ∀ row ∈ ggSchedule, ∀ (s : State) (m : Word), s.SEQ = .op → s.T = row.i → M s.BUF row.g = .ok m →
    exec row.instr s = .next { s with
      A := s.D
      B := s.B + rotl32 (s.A + ((s.B &&& s.D) ||| (s.C &&& ~~~s.D)) + row.k + m) row.s
      C := s.B
      D := s.C
      T := row.i + 1 }

/-- HH, operations 32 to 47 (R105). -/
def Obligations.HhOperationResult : Prop :=
  (∀ row ∈ hhSchedule,
    decode (.step row.i) = row.instr ∧ row.i.extractLsb' 4 2 = 2 ∧ row.g.toNat = (3 * row.i.toNat + 5) % 16 ∧
    S row.i = row.s ∧ row.s ∈ [4, 11, 16, 23] ∧ K row.i = row.k ∧ row.k ≠ 0) ∧
  (∀ (i : BitVec 6), i.extractLsb' 4 2 = 2 → ∃ row ∈ hhSchedule, row.i = i) ∧
  ∀ row ∈ hhSchedule, ∀ (s : State) (m : Word), s.SEQ = .op → s.T = row.i → M s.BUF row.g = .ok m →
    exec row.instr s = .next { s with
      A := s.D
      B := s.B + rotl32 (s.A + (s.B ^^^ s.C ^^^ s.D) + row.k + m) row.s
      C := s.B
      D := s.C
      T := row.i + 1 }

/-- II, operations 48 to 63; operation 63 leaves T and goes to CHAIN (R106, R107). -/
def Obligations.IiOperationResult : Prop :=
  (∀ row ∈ iiSchedule,
    decode (.step row.i) = row.instr ∧ row.i.extractLsb' 4 2 = 3 ∧ row.g.toNat = 7 * row.i.toNat % 16 ∧
    S row.i = row.s ∧ row.s ∈ [6, 10, 15, 21] ∧ K row.i = row.k ∧ row.k ≠ 0) ∧
  (∀ (i : BitVec 6), i.extractLsb' 4 2 = 3 → ∃ row ∈ iiSchedule, row.i = i) ∧
  ∀ row ∈ iiSchedule, ∀ (s : State) (m : Word), s.SEQ = .op → s.T = row.i → M s.BUF row.g = .ok m →
    exec row.instr s = .next { s with
      A := s.D
      B := s.B + rotl32 (s.A + (s.C ^^^ (s.B ||| ~~~s.D)) + row.k + m) row.s
      C := s.B
      D := s.C
      T := if row.i = 63 then s.T else row.i + 1
      SEQ := if row.i = 63 then .chain else .op }

/-- The sequencing and the frame of an operation: it advances T, or goes to CHAIN after operation 63, and leaves everything but
A..D alone (R107). -/
def Obligations.OperationSequencingAndFrame : Prop :=
  ∀ row ∈ schedule, ∀ s t : State, exec row.instr s = .next t →
    (s.SEQ = .op → s.T = row.i →
      (row.i = 63 → t.SEQ = .chain ∧ t.T = s.T) ∧ (row.i ≠ 63 → t.SEQ = .op ∧ t.T = s.T + 1)) ∧
    t.PHASE = s.PHASE ∧ t.FIN = s.FIN ∧ t.LAST = s.LAST ∧ t.CNT = s.CNT ∧ t.LEN = s.LEN ∧ t.BUF = s.BUF ∧
    t.AA = s.AA ∧ t.BB = s.BB ∧ t.CC = s.CC ∧ t.DD = s.DD ∧ t.ERR = s.ERR ∧ t.ERRCODE = s.ERRCODE ∧
    t.PORT = s.PORT ∧ t.DRAWS = s.DRAWS ∧ t.EVERERR = s.EVERERR ∧
    (∀ k : BitVec 6, bufRead t.BUF k = bufRead s.BUF k)

/-- The model's one fault: an enabled operation faults exactly when a byte of its message word has not been written since Reset
(U1), and the fault names such a byte. -/
def Obligations.OperationFaultsOnlyOnUnwrittenByte : Prop :=
  ∀ row ∈ schedule, ∀ s : State, s.SEQ = .op → s.T = row.i →
    ((∃ f, exec row.instr s = .fault f) ↔
      ∃ k < 4, Memory.lookup s.BUF (4 * row.g.toNat + k) = none) ∧
    (∀ f, exec row.instr s = .fault f →
      ∃ k < 4, f = .bufUnwritten (4 * row.g.toNat + k) ∧ Memory.lookup s.BUF (4 * row.g.toNat + k) = none)

/-- CHAIN, in its three cases (R109). -/
def Obligations.ChainAddsSavedCopy : Prop :=
  ∀ s : State, s.SEQ = .chain →
    (s.FIN = false → exec .chain s = .next { s with
      A := s.A + s.AA, B := s.B + s.BB, C := s.C + s.CC, D := s.D + s.DD, SEQ := .ready }) ∧
    (s.FIN = true → s.LAST = true → exec .chain s = .next { s with
      A := s.A + s.AA, B := s.B + s.BB, C := s.C + s.CC, D := s.D + s.DD,
      PHASE := .done, FIN := false, LAST := false, SEQ := .ready }) ∧
    (s.FIN = true → s.LAST = false → exec .chain s = .next { s with
      A := s.A + s.AA, B := s.B + s.BB, C := s.C + s.CC, D := s.D + s.DD, SEQ := .pad })

/-! ### Padding steps -/

/-- PADZ, with and without the block it completes (R85). -/
def Obligations.PadzAppendsZeroByte : Prop :=
  ∀ s : State, s.SEQ = .pad → s.CNT ≠ 56 →
    (s.CNT = 63 → exec .padz s = .next { s with
      BUF := memWrite s.BUF 63 1 0x00, CNT := 0,
      AA := s.A, BB := s.B, CC := s.C, DD := s.D, T := 0, SEQ := .op }) ∧
    (s.CNT ≠ 63 → exec .padz s = .next { s with BUF := memWrite s.BUF s.CNT 1 0x00, CNT := s.CNT + 1 })

/-- PADL writes the eight bytes of LEN, little-endian, at 56 to 63, and starts the last block (R86). -/
def Obligations.PadlAppendsLengthField : Prop :=
  ∀ s : State, s.SEQ = .pad → s.CNT = 56 →
    ∃ t, exec .padl s = .next t ∧
      t = { s with
        BUF := memWrite s.BUF 56 8 s.LEN.toNat, CNT := 0, LAST := true,
        AA := s.A, BB := s.B, CC := s.C, DD := s.D, T := 0, SEQ := .op } ∧
      (∀ k < 8, bufRead t.BUF (BitVec.ofNat 6 (56 + k)) = .ok (s.LEN.extractLsb' (8 * k) 8))

/-! ### Frames of the storing and the other instructions -/

/-- UPDATE, FINAL and PADZ store at most the byte at CNT: every other byte of BUF, the accumulators and the model's fields are
unchanged; AA..DD, T and SEQ = OP only when the block is complete; LEN by UPDATE alone; FIN and LAST by FINAL alone
(R132, R133, R85). -/
def Obligations.ByteStoringInstructionsFrame : Prop :=
  ∀ (data : Byte) (i : Instr), i = .update data ∨ i = .final data ∨ i = .padz →
    ∀ s t : State, exec i s = .next t →
      t.quad = s.quad ∧ t.PHASE = s.PHASE ∧ t.PORT = s.PORT ∧ t.DRAWS = s.DRAWS ∧
      (∀ a : BitVec 6, a ≠ s.CNT → bufRead t.BUF a = bufRead s.BUF a) ∧
      (s.CNT ≠ 63 → t.savedQuad = s.savedQuad ∧ t.T = s.T ∧ (i ≠ .final data → t.SEQ = s.SEQ)) ∧
      (i ≠ .update data → t.LEN = s.LEN) ∧
      (i ≠ .final data → t.FIN = s.FIN ∧ t.LAST = s.LAST) ∧
      (s.PHASE = .absorb ∨ i = .padz → t.ERR = s.ERR ∧ t.ERRCODE = s.ERRCODE ∧ t.EVERERR = s.EVERERR)

/-- PADL stores the bytes 56 to 63 only, and leaves the accumulators, LEN, FIN, PHASE and the error flags alone (R86). -/
def Obligations.LengthFieldFrame : Prop :=
  ∀ s t : State, exec .padl s = .next t →
    (∀ a : BitVec 6, a.toNat < 56 → bufRead t.BUF a = bufRead s.BUF a) ∧
    t.quad = s.quad ∧ t.LEN = s.LEN ∧ t.FIN = s.FIN ∧ t.PHASE = s.PHASE ∧ t.ERR = s.ERR ∧
    t.ERRCODE = s.ERRCODE ∧ t.EVERERR = s.EVERERR ∧ t.PORT = s.PORT ∧ t.DRAWS = s.DRAWS

/-- INIT, RSVD and CHAIN store nothing in BUF and leave AA..DD and T alone; RSVD changes nothing but the error flags; CHAIN
leaves CNT, LEN and the error flags alone (R131, R134, R109). -/
def Obligations.NonStoringInstructionsFrame : Prop :=
  (∀ (data : Byte) (i : Instr), i = .init data ∨ i = .rsvd data ∨ i = .chain →
    ∀ s t : State, exec i s = .next t →
      t.BUF = s.BUF ∧ (∀ a : BitVec 6, bufRead t.BUF a = bufRead s.BUF a) ∧
      t.savedQuad = s.savedQuad ∧ t.T = s.T ∧ t.PORT = s.PORT ∧ t.DRAWS = s.DRAWS) ∧
  (∀ (data : Byte) (s t : State), exec (.rsvd data) s = .next t → Safety.eraseErrors t = Safety.eraseErrors s) ∧
  (∀ (data : Byte) (s t : State), exec (.init data) s = .next t → t.SEQ = s.SEQ ∧ t.EVERERR = s.EVERERR) ∧
  (∀ s t : State, exec .chain s = .next t →
    t.CNT = s.CNT ∧ t.LEN = s.LEN ∧ t.ERR = s.ERR ∧ t.ERRCODE = s.ERRCODE ∧ t.EVERERR = s.EVERERR)

/-! ### Rules about the whole machine -/

/-- LEN counts the bits of the accepted message bytes, modulo 2^64: INIT writes 0, an UPDATE accepted in ABSORB adds 8, nothing
else writes it (R15). -/
def Obligations.LengthCountsMessageBits : Prop :=
  ∀ s t : State, s.input.reset = false → step s = .next t →
    t.LEN =
      match Safety.accepted s with
      | some (.init _) => 0
      | some (.update _) => if s.PHASE = .absorb then s.LEN + 8 else s.LEN
      | _ => s.LEN

/-- Between Resets, A..D change only by INIT, an operation step or the chaining step, and AA..DD only by the block-start action,
which saves A..D (R11, R12, R108). -/
def Obligations.AccumulatorWriters : Prop :=
  ∀ s t : State, s.input.reset = false → step s = .next t →
    (t.quad ≠ s.quad → Safety.AcceptsInit s ∨ s.SEQ = .op ∨ s.SEQ = .chain) ∧
    (t.savedQuad ≠ s.savedQuad → s.SEQ ≠ .op ∧ t.SEQ = .op ∧ t.savedQuad = s.quad) ∧
    (s.SEQ ≠ .op → t.SEQ = .op → t.savedQuad = t.quad ∧ t.quad = s.quad ∧ t.T = 0 ∧ t.CNT = 0)

/-- BUF changes only at CNT, by UPDATE, FINAL and PADZ, and at 56 to 63, by PADL; INIT and the operations do not touch it
(R13, R40). -/
def Obligations.BufferWriters : Prop :=
  ∀ s t : State, s.input.reset = false → step s = .next t → ∀ a : BitVec 6, bufRead t.BUF a ≠ bufRead s.BUF a →
    (a = s.CNT ∧ s.PHASE = .absorb ∧ ∃ data, Safety.accepted s = some (.update data)) ∨
    (a = s.CNT ∧ s.PHASE = .absorb ∧ ∃ data, Safety.accepted s = some (.final data)) ∨
    (a = s.CNT ∧ s.SEQ = .pad) ∨
    (56 ≤ a.toNat ∧ s.SEQ = .pad ∧ s.CNT = 56)

/-- Every transition of (PHASE, SEQ) is one of the table, and the table leaves the listed pairs, of which the one after Reset is one, only to listed pairs (R136). -/
def Obligations.ControlFlowFollowsTable : Prop :=
  ∀ s t : State, step s = .next t →
    (t.PHASE, t.SEQ) = Safety.nextPair s ∧
    (s.input.reset = false → s.SEQ ≠ .op → t.SEQ = .op → t.T = 0) ∧
    (s.input.reset = false → s.SEQ = .op → s.T ≠ 63 → t.T = s.T + 1) ∧
    (s.input.reset = false → s.SEQ = .pad → s.CNT = 56 → t.LAST = true) ∧
    (Safety.legalPair s.PHASE s.SEQ = true → Safety.legalPair t.PHASE t.SEQ = true) ∧
    Safety.legalPair State.reset.PHASE State.reset.SEQ = true

/-- PHASE becomes DONE only in the chaining step of the block that holds the length field, and DIGEST can be read exactly while
PHASE is DONE, as DIGESTBYTES of the accumulators (R121). -/
def Obligations.DigestValidOnlyAfterLastBlock : Prop :=
  (∀ s t : State, step s = .next t → s.PHASE ≠ .done → t.PHASE = .done →
    s.SEQ = .chain ∧ s.FIN = true ∧ s.LAST = true) ∧
  (∀ s : State, s.PHASE = .done → s.readDigest = .ok (digestBytes ⟨s.A, s.B, s.C, s.D⟩)) ∧
  (∀ s : State, s.PHASE ≠ .done → s.readDigest = .error .digestUnspecified)

/-- Once PHASE is DONE the digest stays until INIT is accepted or Reset, whatever other command is sent (R124). -/
def Obligations.DigestStableUntilInitOrReset : Prop :=
  ∀ s t : State, s.PHASE = .done → s.SEQ = .ready → s.input.reset = false → ¬ Safety.AcceptsInit s → step s = .next t →
    t.PHASE = .done ∧ t.SEQ = .ready ∧ t.quad = s.quad ∧ t.readDigest = s.readDigest

/-- BUF keeps its canonical form in every step, from every state in which it has it. -/
def Obligations.StepKeepsBufferCanonical : Prop :=
  ∀ s t : State, s.BUF.wf = true → step s = .next t → t.BUF.wf = true

/-- The state after Reset meets the invariants (R25, R27, R56). That the host has no Reset lined up there is the model's choice of an
empty PORT (assumption log, entry 5). -/
def Obligations.ResetMeetsInvariants : Prop :=
  Safety.Inv State.reset ∧ Safety.ErrInv State.reset ∧ Safety.NoReset State.reset

/-- The invariant of R25, R56 and R136: from every state that meets it, the machine takes a step, never a fault or a refusal, to a
state that meets it. -/
def Obligations.EveryStepKeepsInvariant : Prop :=
  ∀ s : State, Safety.Inv s → ∃ t, step s = .next t ∧ Safety.Inv t

/-- ERR and ERRCODE keep agreeing, and the model's own record is never cleared (R161, R162). -/
def Obligations.EveryStepKeepsErrorInvariant : Prop :=
  ∀ s t : State, Safety.ErrInv s → step s = .next t → Safety.ErrInv t ∧ (s.EVERERR = true → t.EVERERR = true)

/-- STATUS: the value of each field, and, under the invariant, the values that occur with ERR and ERRCODE left out, so that DONE
implies RDY (R21). -/
def Obligations.StatusFields : Prop :=
  (∀ s : State,
    s.status.getLsbD 0 = decide (s.SEQ = .ready) ∧ s.status.getLsbD 1 = decide (s.PHASE = .done) ∧
    s.status.getLsbD 2 = s.ERR ∧ s.status.extractLsb' 3 2 = s.PHASE.code ∧ s.status.extractLsb' 5 3 = s.ERRCODE.code) ∧
  (∀ s : State, Safety.Inv s →
    (s.status &&& 0x1b = 0x01 ∨ s.status &&& 0x1b = 0x09 ∨ s.status &&& 0x1b = 0x08 ∨ s.status &&& 0x1b = 0x13) ∧
    (s.status.getLsbD 1 = true → s.status.getLsbD 0 = true)) ∧
  Phase.code .idle = 0 ∧ Phase.code .absorb = 1 ∧ Phase.code .done = 2

/-! ### Compression -/

/-- The nonlinear functions, whole and bit by bit (R92 to R95). -/
def Obligations.NonlinearFunctionsPerBit : Prop :=
  ∀ (x y z : Word),
    F x y z = (x &&& y) ||| (~~~x &&& z) ∧ G x y z = (x &&& z) ||| (y &&& ~~~z) ∧
    H x y z = x ^^^ y ^^^ z ∧ I x y z = y ^^^ (x ||| ~~~z) ∧
    ∀ k < 32,
    (F x y z).getLsbD k = (if x.getLsbD k then y.getLsbD k else z.getLsbD k) ∧
    (G x y z).getLsbD k = (if z.getLsbD k then x.getLsbD k else y.getLsbD k) ∧
    (H x y z).getLsbD k = (x.getLsbD k ^^ y.getLsbD k ^^ z.getLsbD k) ∧
    (I x y z).getLsbD k = (y.getLsbD k ^^ (x.getLsbD k || !z.getLsbD k))

/-- rotl32 as a sum, and bit by bit; every amount the engine rotates by is in 4..23 (R100). -/
def Obligations.RotationMovesBits : Prop :=
  (∀ row ∈ schedule, 4 ≤ row.s ∧ row.s ≤ 23 ∧ S row.i = row.s) ∧
  ∀ (x : Word) (n : Nat), 0 < n → n < 32 →
    (rotl32 x n).toNat = x.toNat * 2 ^ n % 2 ^ 32 + x.toNat / 2 ^ (32 - n) ∧
    (∀ k < 32, (rotl32 x n).getLsbD ((k + n) % 32) = x.getLsbD k)

/-- From the state a block start leaves, exactly 65 steps leave A..D = COMPRESS and change nothing else but T, SEQ, PHASE, FIN and
LAST, whatever commands the host presents meanwhile (R110). -/
def Obligations.SixtyFiveStepsCompressBlock : Prop :=
  ∀ (s : State) (blk : List Byte), Safety.NoReset s → s.SEQ = .op → s.T = 0 → s.savedQuad = s.quad →
    blk.length = 64 → (∀ k : BitVec 6, bufRead s.BUF k = .ok (blk.getD k.toNat 0)) →
    (∃ t, Host.Core.run core 65 s = .next t ∧
      t.quad = compress s.quad blk ∧
      (t.PHASE, t.SEQ, t.FIN, t.LAST) =
        (if s.FIN = false then (s.PHASE, .ready, s.FIN, s.LAST)
         else if s.LAST = true then (.done, .ready, false, false)
         else (s.PHASE, .pad, s.FIN, s.LAST)) ∧
      t.savedQuad = s.savedQuad ∧ t.BUF = s.BUF ∧ t.CNT = s.CNT ∧ t.LEN = s.LEN ∧ t.ERR = s.ERR ∧
      t.ERRCODE = s.ERRCODE ∧ t.EVERERR = s.EVERERR ∧ t.DRAWS = s.DRAWS ∧ t.PORT = s.PORT.drop 65) ∧
    (∀ n < 65, ∃ u, Host.Core.run core n s = .next u ∧ (u.SEQ = .op ∨ u.SEQ = .chain))

/-- The in-place formulation: before operation n the moving tuple is the fixed registers in their roles, and after operation 63
the two agree register for register (R111). -/
def Obligations.InPlaceFormulationAgrees : Prop :=
  ∀ (words : BitVec 4 → Word) (w : Quad),
    (∀ n ≤ 64,
      let p := runOpsInPlace words w n
      let i := BitVec.ofNat 6 n
      runOps words w n =
        ⟨p.get (roleIndex 0 i), p.get (roleIndex 1 i), p.get (roleIndex 2 i), p.get (roleIndex 3 i)⟩) ∧
    runOpsInPlace words w 64 = runOps words w 64

/-! ### Memory, padding, digest form -/

/-- MemRead and MemWrite, little-endian, within BUF: what is written reads back, byte by byte and whole, and no other byte moves
(R45; widths other than 1, 4 and 8 are the model's choice: assumption log, entry 16). -/
def Obligations.BufferAccessLittleEndian : Prop :=
  ∀ (m : Memory) (addr : BitVec 6) (n : Nat), addr.toNat + n ≤ 64 →
    (∀ bytes : Nat → Byte, (∀ k < n, bufRead m (BitVec.ofNat 6 (addr.toNat + k)) = .ok (bytes k)) →
      memRead m addr n = .ok (((List.range n).map fun k => 2 ^ (8 * k) * (bytes k).toNat).sum)) ∧
    (∀ v < 2 ^ (8 * n),
      (∀ k < n, bufRead (memWrite m addr n v) (BitVec.ofNat 6 (addr.toNat + k)) = .ok (BitVec.ofNat 8 (v / 2 ^ (8 * k)))) ∧
      memRead (memWrite m addr n v) addr n = .ok v ∧
      (∀ a : BitVec 6, a.toNat < addr.toNat ∨ addr.toNat + n ≤ a.toNat →
        bufRead (memWrite m addr n v) a = bufRead m a))

/-- The word view M[j] is the little-endian word of the four bytes at 4 j (R41). -/
def Obligations.WordViewLittleEndian : Prop :=
  ∀ (m : Memory) (j : BitVec 4) (b0 b1 b2 b3 : Byte),
    bufRead m (BitVec.ofNat 6 (4 * j.toNat)) = .ok b0 → bufRead m (BitVec.ofNat 6 (4 * j.toNat + 1)) = .ok b1 →
    bufRead m (BitVec.ofNat 6 (4 * j.toNat + 2)) = .ok b2 → bufRead m (BitVec.ofNat 6 (4 * j.toNat + 3)) = .ok b3 →
    ∃ word, M m j = .ok word ∧
      word.toNat = b0.toNat + 2 ^ 8 * b1.toNat + 2 ^ 16 * b2.toNat + 2 ^ 24 * b3.toNat

/-- PAD(m): its length is 64 NB(n), in bits the smallest multiple of 512 that is at least 8 n + 65; it is m, 0x80, zeros and the
little-endian length; 9 to 72 bytes are added (R80, R81). -/
def Obligations.PaddedStreamShape : Prop :=
  ∀ m : List Byte,
    (pad m).length = 64 * numBlocks m.length ∧
    (pad m).length = m.length + 1 + padZeros m.length + 8 ∧
    numBlocks m.length = (m.length + 8) / 64 + 1 ∧
    9 ≤ (pad m).length - m.length ∧ (pad m).length - m.length ≤ 72 ∧
    8 * m.length + 65 ≤ 8 * (pad m).length ∧
    (∀ q : Nat, 8 * m.length + 65 ≤ 512 * q → 8 * (pad m).length ≤ 512 * q) ∧
    (pad m).take m.length = m ∧
    (pad m)[m.length]? = some 0x80 ∧
    (∀ k, m.length < k → k + 8 < (pad m).length → (pad m)[k]? = some 0x00) ∧
    (∀ k < 8, (pad m)[(pad m).length - 8 + k]? = some ((BitVec.ofNat 64 (8 * m.length)).extractLsb' (8 * k) 8))

/-- DIGESTBYTES: sixteen bytes, little-endian A, B, C, D, and the same as the 128-bit port (R120). -/
def Obligations.DigestByteOrder : Prop :=
  ∀ s : State, s.PHASE = .done →
    ∃ d port, s.readDigest = .ok d ∧ s.readDigestPort = .ok port ∧ d.length = 16 ∧
      (∀ k < 4, d[k]? = some (s.A.extractLsb' (8 * k) 8) ∧ d[4 + k]? = some (s.B.extractLsb' (8 * k) 8) ∧
        d[8 + k]? = some (s.C.extractLsb' (8 * k) 8) ∧ d[12 + k]? = some (s.D.extractLsb' (8 * k) 8)) ∧
      (∀ k < 16, d[k]? = some (port.extractLsb' (8 * k) 8))

/-- to_hex gives two lower-case digits a byte, and from_hex reads the bytes back: for 16 bytes this is R122 and R123, for lists
of other lengths the model's choice (assumption log, entries 19 and 22). -/
def Obligations.HexFormRoundTrips : Prop :=
  ∀ d : List Byte,
    fromHex (toHex d) = some d ∧ (toHex d).length = 2 * d.length ∧ (∀ c ∈ toHex d, c ∈ hexDigits) ∧
    (∀ k v, d[k]? = some v →
      (toHex d)[2 * k]? = hexDigits[v.toNat / 16]? ∧ (toHex d)[2 * k + 1]? = hexDigits[v.toNat % 16]?)

/-! ### Computations -/

/-- FINAL with CNT = c takes exactly 121 - c steps to the ready state if c is at most 55, else 250 - c, whatever commands the host
presents meanwhile (R140). -/
def Obligations.FinalCompletesInExactSteps : Prop :=
  ∀ (data : Byte) (s u : State), Safety.Inv s → Safety.NoReset s → s.SEQ = .ready → s.PHASE = .absorb →
    exec (.final data) s = .next u →
    let count := if s.CNT.toNat ≤ 55 then 121 - s.CNT.toNat else 250 - s.CNT.toNat
    (∃ t, Host.Core.run core count u = .next t ∧ t.SEQ = .ready ∧ t.PHASE = .done) ∧
    (∀ n < count, ∃ t, Host.Core.run core n u = .next t ∧ t.SEQ ≠ .ready)

/-- After FINAL in the state that the message m leaves, the blocks compressed are exactly BLOCK(m, floor(n / 64)), and then, if n
mod 64 is at least 56, BLOCK(m, floor(n / 64) + 1): no other block starts before the computation is finished; the last of them,
and only it, has LAST = 1 (R87). -/
def Obligations.FinalizationCompressesPaddedBlocks : Prop :=
  ∀ (data : Byte) (m : List Byte) (s u : State), Safety.NoReset s → s.SEQ = .ready → s.PHASE = .absorb →
    s.LEN = BitVec.ofNat 64 (8 * m.length) → s.CNT = BitVec.ofNat 6 m.length →
    (∀ k < m.length % 64,
      bufRead s.BUF (BitVec.ofNat 6 k) = .ok (m.getD (m.length - m.length % 64 + k) 0)) →
    exec (.final data) s = .next u →
    let c := m.length % 64
    let holds (q : Nat) (t : State) : Prop :=
      t.SEQ = .op ∧ t.T = 0 ∧ ∀ k : BitVec 6, bufRead t.BUF k = .ok ((block m q).getD k.toNat 0)
    (c ≤ 55 →
      (∃ t, Host.Core.run core (56 - c) u = .next t ∧ holds (m.length / 64) t ∧ t.LAST = true) ∧
      (∃ t, Host.Core.run core (56 - c + 65) u = .next t ∧ t.SEQ = .ready ∧ t.PHASE = .done) ∧
      (∀ n ≤ 56 - c + 65, ∃ t, Host.Core.run core n u = .next t ∧ (t.SEQ = .op → t.T = 0 → n = 56 - c)) ∧
      numBlocks m.length = m.length / 64 + 1) ∧
    (56 ≤ c →
      (∃ t, Host.Core.run core (63 - c) u = .next t ∧ holds (m.length / 64) t ∧ t.LAST = false) ∧
      (∃ t, Host.Core.run core (63 - c + 65 + 57) u = .next t ∧ holds (m.length / 64 + 1) t ∧ t.LAST = true) ∧
      (∃ t, Host.Core.run core (63 - c + 65 + 57 + 65) u = .next t ∧ t.SEQ = .ready ∧ t.PHASE = .done) ∧
      (∀ n ≤ 63 - c + 65 + 57 + 65, ∃ t, Host.Core.run core n u = .next t ∧
        (t.SEQ = .op → t.T = 0 → n = 63 - c ∨ n = 63 - c + 65 + 57)) ∧
      numBlocks m.length = m.length / 64 + 2)

/-- The engine cannot hang: from every state of the invariant it is ready again within 194 steps, with no host action and whatever
commands the host presents (R140). -/
def Obligations.BusyEngineBecomesReady : Prop :=
  ∀ s : State, Safety.Inv s → Safety.NoReset s →
    ∃ n ≤ 194, ∃ t, Host.Core.run core n s = .next t ∧ t.SEQ = .ready ∧ Safety.Inv t

/-- After INIT and the bytes m, from any ready state (R138). -/
def Obligations.AbsorbedMessageState : Prop :=
  ∀ (s : State) (m : List Byte), s.SEQ = .ready →
    ∃ t, runScript (newStreamingComputation ++ updateScript m) s = .next t ∧
      t.PHASE = .absorb ∧ t.SEQ = .ready ∧
      t.LEN = BitVec.ofNat 64 (8 * m.length) ∧ t.CNT = BitVec.ofNat 6 m.length ∧
      (∀ k < m.length % 64,
        bufRead t.BUF (BitVec.ofNat 6 k) = .ok (m.getD (m.length - m.length % 64 + k) 0)) ∧
      t.quad = chainValue m (m.length / 64)

/-- INIT, the bytes m and FINAL, from any ready state, end in PHASE DONE with STATUS 0x13 and DIGEST = MD5(m), for every message
(R139, R115, R2). -/
def Obligations.HashYieldsMd5Digest : Prop :=
  ∀ (s : State) (m : List Byte), s.SEQ = .ready →
    ∃ t, runScript (hashScript m) s = .next t ∧ t.PHASE = .done ∧ t.SEQ = .ready ∧ t.status = 0x13 ∧
      t.readDigest = .ok (md5 m) ∧ (md5 m).length = 16

/-- Every way of splitting the message into chunks gives the digest of the whole in one shot (R137). -/
def Obligations.StreamingEquivalence : Prop :=
  ∀ (s : State) (chunks : List (List Byte)), s.SEQ = .ready →
    runAndRead (streamingScript chunks) s = some (md5 chunks.flatten) ∧
    runAndRead (streamingScript chunks) s = runAndRead (hashScript chunks.flatten) s

/-- After INIT nothing of an earlier computation can influence a later result: the same script without RESET, begun with INIT from
any two ready states, ends with the same STATUS and the same DIGEST (R131, R24). -/
def Obligations.InitForgetsEarlierComputations : Prop :=
  ∀ (s u : State) (script : List ScriptLine), s.SEQ = .ready → u.SEQ = .ready → ScriptLine.reset ∉ script →
    ∃ s' u', runScript (.init :: script) s = .next s' ∧ runScript (.init :: script) u = .next u' ∧
      s'.status = u'.status ∧ s'.readDigest = u'.readDigest

/-- Instances are independent: a step of one leaves every other alone, is that instance's own step, and steps of two instances
give the same bank in either order (R172). The form of the bank, a list of engines of which one moves at a time, an index beyond it
moving none, is the model's choice (assumption log, entry 12). -/
def Obligations.InstancesAreIndependent : Prop :=
  (∀ (bank bank' : List State) (k : Nat), stepBank k bank = .next bank' →
    bank'.length = bank.length ∧ (∀ j, j ≠ k → bank'[j]? = bank[j]?) ∧
    (∀ s, bank[k]? = some s → ∃ t, step s = .next t ∧ bank'[k]? = some t)) ∧
  (∀ (bank one two other both : List State) (j k : Nat), j ≠ k →
    stepBank j bank = .next one → stepBank k one = .next both →
    stepBank k bank = .next two → stepBank j two = .next other → both = other)
end

