-- ==== Sys2Proof/Laws/Functions.lean ====
section
/-! SUPPORT. The pure functions: rotation as the library's, the lengths of the little-endian forms and of the digest, and what
the recursions of the reference functions unfold to. -/

namespace Sys2Proof.Machine

/-- rotl32 is rotation to the left (R100). -/
theorem rotl32_eq_rotateLeft (x : Word) (n : Nat) (h : n < 32) : rotl32 x n = x.rotateLeft n := by
  unfold rotl32; rw [BitVec.rotateLeft_def, Nat.mod_eq_of_lt h]

@[simp] theorem le32_length (w : Word) : (le32 w).length = 4 := rfl

@[simp] theorem le64_length (w : BitVec 64) : (le64 w).length = 8 := rfl

@[simp] theorem digestBytes_length (w : Quad) : (digestBytes w).length = 16 := rfl

@[simp] theorem runOps_zero (words : BitVec 4 → Word) (w : Quad) : runOps words w 0 = w := rfl

theorem runOps_succ (words : BitVec 4 → Word) (w : Quad) (n : Nat) :
    runOps words w (n + 1) = opstep (BitVec.ofNat 6 n) (runOps words w n) words := rfl

@[simp] theorem runOpsInPlace_zero (words : BitVec 4 → Word) (p : Quad) : runOpsInPlace words p 0 = p := rfl

theorem runOpsInPlace_succ (words : BitVec 4 → Word) (p : Quad) (n : Nat) :
    runOpsInPlace words p (n + 1) = opstepInPlace (BitVec.ofNat 6 n) (runOpsInPlace words p n) words := rfl

@[simp] theorem chainValue_zero (m : List Byte) : chainValue m 0 = IV := rfl

theorem chainValue_succ (m : List Byte) (q : Nat) :
    chainValue m (q + 1) = compress (chainValue m q) (block m q) := rfl

/-- z is less than 64, and brings n + 1 + z to 56 modulo 64 (R80). -/
theorem padZeros_spec (n : Nat) : padZeros n < 64 ∧ (n + 1 + padZeros n) % 64 = 56 := by
  unfold padZeros; omega

@[simp] theorem Quad.get_set_same (p : Quad) (x : BitVec 2) (v : Word) : (p.set x v).get x = v := by
  unfold Quad.set Quad.get; split_ifs <;> rfl

theorem Quad.get_set_other (p : Quad) (x y : BitVec 2) (v : Word) (h : y ≠ x) : (p.set x v).get y = p.get y := by
  have four : ∀ z : BitVec 2, z = 0 ∨ z = 1 ∨ z = 2 ∨ z = 3 := by decide
  rcases four x with rfl | rfl | rfl | rfl <;> rcases four y with rfl | rfl | rfl | rfl <;> first | rfl | exact absurd rfl h

end Sys2Proof.Machine
end

