-- ==== Sys2Proof/Laws/Memory.lean ====
section
/-! SUPPORT. BUF: a read after a write gives what was written, a write leaves every other byte alone, every write keeps the
canonical form, and MemRead, MemWrite and the word view in terms of single bytes (R41, R45). -/

namespace Sys2Proof.Machine

/-! ### One byte -/

@[simp] theorem Memory.lookup_insert_same (m : Memory) (i : Nat) (v : Byte) :
    Memory.lookup (Memory.insert m i v) i = some v := by
  induction m with
  | nil => simp [Memory.insert, Memory.lookup]
  | cons c rest ih =>
    obtain ⟨k, w⟩ := c
    unfold Memory.insert
    split
    · simp [Memory.lookup]
    · split
      · simp [Memory.lookup]
      · have : k ≠ i := by omega
        simp [Memory.lookup, this, ih]

theorem Memory.lookup_insert_other (m : Memory) (i j : Nat) (v : Byte) (h : j ≠ i) :
    Memory.lookup (Memory.insert m i v) j = Memory.lookup m j := by
  induction m with
  | nil => simp [Memory.insert, Memory.lookup, Ne.symm h]
  | cons c rest ih =>
    obtain ⟨k, w⟩ := c
    unfold Memory.insert
    split
    · simp [Memory.lookup, Ne.symm h]
    · split
      · subst_vars
        simp [Memory.lookup, Ne.symm h]
      · simp [Memory.lookup, ih]

theorem Memory.lookup_insert (m : Memory) (i j : Nat) (v : Byte) :
    Memory.lookup (Memory.insert m i v) j = if j = i then some v else Memory.lookup m j := by
  split
  · subst_vars; simp
  · exact Memory.lookup_insert_other m i j v ‹_›

theorem Memory.risingFrom_insert (m : Memory) (low i : Nat) (v : Byte) (hm : Memory.risingFrom low m = true)
    (hlow : low ≤ i) (hi : i < 64) : Memory.risingFrom low (Memory.insert m i v) = true := by
  induction m generalizing low with
  | nil => simp [Memory.insert, Memory.risingFrom, hlow, hi]
  | cons c rest ih =>
    obtain ⟨k, w⟩ := c
    simp only [Memory.risingFrom, Bool.and_eq_true, decide_eq_true_eq] at hm
    unfold Memory.insert
    split
    · simp [Memory.risingFrom, hlow, hi, hm.1.2, hm.2]; omega
    · split
      · subst_vars
        simp [Memory.risingFrom, hlow, hi, hm.2]
      · simp only [Memory.risingFrom, Bool.and_eq_true, decide_eq_true_eq]
        exact ⟨hm.1, ih (k + 1) hm.2 (by omega)⟩

theorem Memory.wf_insert (m : Memory) (i : Nat) (v : Byte) (hm : m.wf = true) (hi : i < 64) :
    (Memory.insert m i v).wf = true :=
  Memory.risingFrom_insert m 0 i v hm (Nat.zero_le i) hi

theorem bufRead_eq_ok (m : Memory) (i : BitVec 6) (v : Byte) :
    bufRead m i = .ok v ↔ Memory.lookup m i.toNat = some v := by
  unfold bufRead
  split <;> simp [*]

theorem bufRead_congr (m m' : Memory) (i : BitVec 6) (h : Memory.lookup m i.toNat = Memory.lookup m' i.toNat) :
    bufRead m i = bufRead m' i := by
  unfold bufRead; rw [h]

@[simp] theorem bufRead_bufWrite_same (m : Memory) (i : BitVec 6) (v : Byte) : bufRead (bufWrite m i v) i = .ok v := by
  simp [bufRead_eq_ok, bufWrite]

theorem bufRead_bufWrite_other (m : Memory) (i j : BitVec 6) (v : Byte) (h : j ≠ i) :
    bufRead (bufWrite m i v) j = bufRead m j :=
  bufRead_congr _ _ _ (Memory.lookup_insert_other _ _ _ _ fun e => h (BitVec.eq_of_toNat_eq e))

theorem bufWrite_wf (m : Memory) (i : BitVec 6) (v : Byte) (hm : m.wf = true) : (bufWrite m i v).wf = true :=
  Memory.wf_insert m i.toNat v hm i.isLt

/-! ### MemWrite -/

theorem memWrite_wf (m : Memory) (addr : BitVec 6) (n v : Nat) (hm : m.wf = true) : (memWrite m addr n v).wf = true := by
  induction n generalizing m addr v with
  | zero => exact hm
  | succ n ih => exact ih _ _ _ (bufWrite_wf m addr _ hm)

/-- The stored byte of MemWrite at an index inside the written bytes, and what it leaves outside. -/
theorem lookup_memWrite (m : Memory) (addr : BitVec 6) (n v j : Nat) (h : addr.toNat + n ≤ 64) :
    Memory.lookup (memWrite m addr n v) j =
      if addr.toNat ≤ j ∧ j < addr.toNat + n then some (BitVec.ofNat 8 (v / 2 ^ (8 * (j - addr.toNat))))
      else Memory.lookup m j := by
  induction n generalizing m addr v with
  | zero => simp [memWrite]
  | succ n ih =>
    by_cases hn : n = 0
    · subst hn
      simp only [memWrite, bufWrite, Memory.lookup_insert]
      by_cases hj : j = addr.toNat
      · subst hj; simp
      · rw [if_neg hj, if_neg (by omega)]
    · have hadd : (addr + 1).toNat = addr.toNat + 1 := by
        rw [BitVec.toNat_add, Nat.mod_eq_of_lt (by simp; omega)]; simp
      simp only [memWrite]
      rw [ih _ _ _ (by omega), hadd]
      by_cases hin : addr.toNat + 1 ≤ j ∧ j < addr.toNat + 1 + n
      · rw [if_pos hin, if_pos (by omega)]
        congr 2
        rw [Nat.div_div_eq_div_mul, show (256 : Nat) = 2 ^ 8 from rfl, ← Nat.pow_add]
        congr 2
        omega
      · rw [if_neg hin]
        simp only [bufWrite, Memory.lookup_insert]
        by_cases hj : j = addr.toNat
        · subst hj; simp
        · rw [if_neg hj, if_neg (by omega)]

@[simp] theorem memWrite_one (m : Memory) (i : BitVec 6) (v : Byte) : memWrite m i 1 v.toNat = bufWrite m i v := by
  simp [memWrite]

/-! ### MemRead and the word view -/

theorem memRead_succ_ok (m : Memory) (addr : BitVec 6) (n : Nat) (low : Byte) (high : Nat)
    (hl : bufRead m addr = .ok low) (hh : memRead m (addr + 1) n = .ok high) :
    memRead m addr (n + 1) = .ok (low.toNat + 256 * high) := by
  simp only [memRead, hl, hh]

theorem wordAddress_toNat (j : BitVec 4) : (j ++ 0#2 : BitVec 6).toNat = 4 * j.toNat := by
  have := j.isLt
  rw [BitVec.toNat_append, ← Nat.shiftLeft_add_eq_or_of_lt (by simp), Nat.shiftLeft_eq]
  simp; omega

theorem wordAddress_add_toNat (j : BitVec 4) (k : BitVec 6) (h : k.toNat < 4) :
    ((j ++ 0#2 : BitVec 6) + k).toNat = 4 * j.toNat + k.toNat := by
  have := j.isLt
  rw [BitVec.toNat_add, wordAddress_toNat, Nat.mod_eq_of_lt (by omega)]

/-- MemRead of four bytes, byte by byte. -/
theorem memRead_four (m : Memory) (a : BitVec 6) (b0 b1 b2 b3 : Byte) (h0 : bufRead m a = .ok b0)
    (h1 : bufRead m (a + 1) = .ok b1) (h2 : bufRead m (a + 2) = .ok b2) (h3 : bufRead m (a + 3) = .ok b3) :
    memRead m a 4 = .ok (b0.toNat + 2 ^ 8 * b1.toNat + 2 ^ 16 * b2.toNat + 2 ^ 24 * b3.toNat) := by
  have h2' : bufRead m (a + 1 + 1) = .ok b2 := by rw [BitVec.add_assoc]; exact h2
  have h3' : bufRead m (a + 1 + 1 + 1) = .ok b3 := by rw [BitVec.add_assoc, BitVec.add_assoc]; exact h3
  simp only [memRead, h0, h1, h2', h3']
  congr 1; omega

/-- The word view of four written bytes, by their places in BUF (R41). -/
theorem M_of_lookup (m : Memory) (j : BitVec 4) (b0 b1 b2 b3 : Byte)
    (h0 : Memory.lookup m (4 * j.toNat) = some b0) (h1 : Memory.lookup m (4 * j.toNat + 1) = some b1)
    (h2 : Memory.lookup m (4 * j.toNat + 2) = some b2) (h3 : Memory.lookup m (4 * j.toNat + 3) = some b3) :
    M m j = .ok (BitVec.ofNat 32 (b0.toNat + 2 ^ 8 * b1.toNat + 2 ^ 16 * b2.toNat + 2 ^ 24 * b3.toNat)) := by
  unfold M
  rw [memRead_four m _ b0 b1 b2 b3]
  · rw [bufRead_eq_ok, wordAddress_toNat, h0]
  · rw [bufRead_eq_ok, wordAddress_add_toNat _ _ (by decide)]; exact h1
  · rw [bufRead_eq_ok, wordAddress_add_toNat _ _ (by decide)]; exact h2
  · rw [bufRead_eq_ok, wordAddress_add_toNat _ _ (by decide)]; exact h3

/-- The word view reads whenever its four bytes have been written. -/
theorem M_isOk (m : Memory) (j : BitVec 4) (h : ∀ k < 64, (Memory.lookup m k).isSome = true) : ∃ w, M m j = .ok w := by
  have hj := j.isLt
  obtain ⟨b0, h0⟩ := Option.isSome_iff_exists.mp (h (4 * j.toNat) (by omega))
  obtain ⟨b1, h1⟩ := Option.isSome_iff_exists.mp (h (4 * j.toNat + 1) (by omega))
  obtain ⟨b2, h2⟩ := Option.isSome_iff_exists.mp (h (4 * j.toNat + 2) (by omega))
  obtain ⟨b3, h3⟩ := Option.isSome_iff_exists.mp (h (4 * j.toNat + 3) (by omega))
  exact ⟨_, M_of_lookup m j b0 b1 b2 b3 h0 h1 h2 h3⟩

/-- Two buffers that agree have the same word view. -/
theorem M_congr (m m' : Memory) (j : BitVec 4) (h : ∀ k < 64, Memory.lookup m k = Memory.lookup m' k) : M m j = M m' j := by
  have hr : ∀ i : BitVec 6, bufRead m i = bufRead m' i := fun i => bufRead_congr _ _ _ (h _ i.isLt)
  simp [M, memRead, hr]

/-! ### Filling what nothing has written -/

theorem lookup_fillUnwritten (m : Memory) (n k : Nat) :
    Memory.lookup (fillUnwritten m n) k =
      if k < n then some ((Memory.lookup m k).getD 0) else Memory.lookup m k := by
  induction n generalizing k with
  | zero => simp [fillUnwritten]
  | succ n ih =>
    have hn : Memory.lookup (fillUnwritten m n) n = Memory.lookup m n := by simp [ih]
    simp only [fillUnwritten]
    split
    · rename_i v hv
      rw [ih]
      by_cases hk : k = n
      · subst hk
        rw [hn] at hv
        simp [hv]
      · have : k < n + 1 ↔ k < n := by omega
        simp [this]
    · rename_i hv
      rw [Memory.lookup_insert, ih]
      by_cases hk : k = n
      · subst hk
        rw [hn] at hv
        simp [hv]
      · have : k < n + 1 ↔ k < n := by omega
        simp [this, hk]

theorem fillUnwritten_wf (m : Memory) (n : Nat) (hn : n ≤ 64) (hm : m.wf = true) : (fillUnwritten m n).wf = true := by
  induction n with
  | zero => exact hm
  | succ n ih =>
    simp only [fillUnwritten]
    split
    · exact ih (by omega)
    · exact Memory.wf_insert _ _ _ (ih (by omega)) (by omega)

end Sys2Proof.Machine
end

