-- ==== Sys2Proof/Laws/State.lean ====
section
/-! SUPPORT. One lemma per field for each update of the state, true by rfl, so that no later proof unfolds a record update. -/

namespace Sys2Proof.Machine

/-! ### withQuad -/

@[simp] theorem State.withQuad_A (s : State) (w : Quad) : (s.withQuad w).A = w.a := rfl
@[simp] theorem State.withQuad_B (s : State) (w : Quad) : (s.withQuad w).B = w.b := rfl
@[simp] theorem State.withQuad_C (s : State) (w : Quad) : (s.withQuad w).C = w.c := rfl
@[simp] theorem State.withQuad_D (s : State) (w : Quad) : (s.withQuad w).D = w.d := rfl
@[simp] theorem State.withQuad_AA (s : State) (w : Quad) : (s.withQuad w).AA = s.AA := rfl
@[simp] theorem State.withQuad_BB (s : State) (w : Quad) : (s.withQuad w).BB = s.BB := rfl
@[simp] theorem State.withQuad_CC (s : State) (w : Quad) : (s.withQuad w).CC = s.CC := rfl
@[simp] theorem State.withQuad_DD (s : State) (w : Quad) : (s.withQuad w).DD = s.DD := rfl
@[simp] theorem State.withQuad_BUF (s : State) (w : Quad) : (s.withQuad w).BUF = s.BUF := rfl
@[simp] theorem State.withQuad_CNT (s : State) (w : Quad) : (s.withQuad w).CNT = s.CNT := rfl
@[simp] theorem State.withQuad_LEN (s : State) (w : Quad) : (s.withQuad w).LEN = s.LEN := rfl
@[simp] theorem State.withQuad_PHASE (s : State) (w : Quad) : (s.withQuad w).PHASE = s.PHASE := rfl
@[simp] theorem State.withQuad_SEQ (s : State) (w : Quad) : (s.withQuad w).SEQ = s.SEQ := rfl
@[simp] theorem State.withQuad_T (s : State) (w : Quad) : (s.withQuad w).T = s.T := rfl
@[simp] theorem State.withQuad_FIN (s : State) (w : Quad) : (s.withQuad w).FIN = s.FIN := rfl
@[simp] theorem State.withQuad_LAST (s : State) (w : Quad) : (s.withQuad w).LAST = s.LAST := rfl
@[simp] theorem State.withQuad_ERR (s : State) (w : Quad) : (s.withQuad w).ERR = s.ERR := rfl
@[simp] theorem State.withQuad_ERRCODE (s : State) (w : Quad) : (s.withQuad w).ERRCODE = s.ERRCODE := rfl
@[simp] theorem State.withQuad_PORT (s : State) (w : Quad) : (s.withQuad w).PORT = s.PORT := rfl
@[simp] theorem State.withQuad_DRAWS (s : State) (w : Quad) : (s.withQuad w).DRAWS = s.DRAWS := rfl
@[simp] theorem State.withQuad_EVERERR (s : State) (w : Quad) : (s.withQuad w).EVERERR = s.EVERERR := rfl

/-! ### startBlock (R108) -/

@[simp] theorem startBlock_A (s : State) : (startBlock s).A = s.A := rfl
@[simp] theorem startBlock_B (s : State) : (startBlock s).B = s.B := rfl
@[simp] theorem startBlock_C (s : State) : (startBlock s).C = s.C := rfl
@[simp] theorem startBlock_D (s : State) : (startBlock s).D = s.D := rfl
@[simp] theorem startBlock_AA (s : State) : (startBlock s).AA = s.A := rfl
@[simp] theorem startBlock_BB (s : State) : (startBlock s).BB = s.B := rfl
@[simp] theorem startBlock_CC (s : State) : (startBlock s).CC = s.C := rfl
@[simp] theorem startBlock_DD (s : State) : (startBlock s).DD = s.D := rfl
@[simp] theorem startBlock_BUF (s : State) : (startBlock s).BUF = s.BUF := rfl
@[simp] theorem startBlock_CNT (s : State) : (startBlock s).CNT = s.CNT := rfl
@[simp] theorem startBlock_LEN (s : State) : (startBlock s).LEN = s.LEN := rfl
@[simp] theorem startBlock_PHASE (s : State) : (startBlock s).PHASE = s.PHASE := rfl
@[simp] theorem startBlock_SEQ (s : State) : (startBlock s).SEQ = .op := rfl
@[simp] theorem startBlock_T (s : State) : (startBlock s).T = 0 := rfl
@[simp] theorem startBlock_FIN (s : State) : (startBlock s).FIN = s.FIN := rfl
@[simp] theorem startBlock_LAST (s : State) : (startBlock s).LAST = s.LAST := rfl
@[simp] theorem startBlock_ERR (s : State) : (startBlock s).ERR = s.ERR := rfl
@[simp] theorem startBlock_ERRCODE (s : State) : (startBlock s).ERRCODE = s.ERRCODE := rfl
@[simp] theorem startBlock_PORT (s : State) : (startBlock s).PORT = s.PORT := rfl
@[simp] theorem startBlock_DRAWS (s : State) : (startBlock s).DRAWS = s.DRAWS := rfl
@[simp] theorem startBlock_EVERERR (s : State) : (startBlock s).EVERERR = s.EVERERR := rfl

/-! ### raiseUsageError (R162) -/

@[simp] theorem raiseUsageError_A (code : Cause) (s : State) : (raiseUsageError code s).A = s.A := rfl
@[simp] theorem raiseUsageError_B (code : Cause) (s : State) : (raiseUsageError code s).B = s.B := rfl
@[simp] theorem raiseUsageError_C (code : Cause) (s : State) : (raiseUsageError code s).C = s.C := rfl
@[simp] theorem raiseUsageError_D (code : Cause) (s : State) : (raiseUsageError code s).D = s.D := rfl
@[simp] theorem raiseUsageError_AA (code : Cause) (s : State) : (raiseUsageError code s).AA = s.AA := rfl
@[simp] theorem raiseUsageError_BB (code : Cause) (s : State) : (raiseUsageError code s).BB = s.BB := rfl
@[simp] theorem raiseUsageError_CC (code : Cause) (s : State) : (raiseUsageError code s).CC = s.CC := rfl
@[simp] theorem raiseUsageError_DD (code : Cause) (s : State) : (raiseUsageError code s).DD = s.DD := rfl
@[simp] theorem raiseUsageError_BUF (code : Cause) (s : State) : (raiseUsageError code s).BUF = s.BUF := rfl
@[simp] theorem raiseUsageError_CNT (code : Cause) (s : State) : (raiseUsageError code s).CNT = s.CNT := rfl
@[simp] theorem raiseUsageError_LEN (code : Cause) (s : State) : (raiseUsageError code s).LEN = s.LEN := rfl
@[simp] theorem raiseUsageError_PHASE (code : Cause) (s : State) : (raiseUsageError code s).PHASE = s.PHASE := rfl
@[simp] theorem raiseUsageError_SEQ (code : Cause) (s : State) : (raiseUsageError code s).SEQ = s.SEQ := rfl
@[simp] theorem raiseUsageError_T (code : Cause) (s : State) : (raiseUsageError code s).T = s.T := rfl
@[simp] theorem raiseUsageError_FIN (code : Cause) (s : State) : (raiseUsageError code s).FIN = s.FIN := rfl
@[simp] theorem raiseUsageError_LAST (code : Cause) (s : State) : (raiseUsageError code s).LAST = s.LAST := rfl
@[simp] theorem raiseUsageError_ERR (code : Cause) (s : State) : (raiseUsageError code s).ERR = true := rfl
@[simp] theorem raiseUsageError_ERRCODE (code : Cause) (s : State) : (raiseUsageError code s).ERRCODE = if s.ERR then s.ERRCODE else code := rfl
@[simp] theorem raiseUsageError_PORT (code : Cause) (s : State) : (raiseUsageError code s).PORT = s.PORT := rfl
@[simp] theorem raiseUsageError_DRAWS (code : Cause) (s : State) : (raiseUsageError code s).DRAWS = s.DRAWS := rfl
@[simp] theorem raiseUsageError_EVERERR (code : Cause) (s : State) : (raiseUsageError code s).EVERERR = true := rfl

/-! ### resetEvent (R190): what is not free -/

@[simp] theorem resetEvent_BUF (s : State) : (resetEvent s).BUF = [] := rfl
@[simp] theorem resetEvent_PHASE (s : State) : (resetEvent s).PHASE = .idle := rfl
@[simp] theorem resetEvent_SEQ (s : State) : (resetEvent s).SEQ = .ready := rfl
@[simp] theorem resetEvent_FIN (s : State) : (resetEvent s).FIN = false := rfl
@[simp] theorem resetEvent_LAST (s : State) : (resetEvent s).LAST = false := rfl
@[simp] theorem resetEvent_ERR (s : State) : (resetEvent s).ERR = false := rfl
@[simp] theorem resetEvent_ERRCODE (s : State) : (resetEvent s).ERRCODE = .none := rfl
@[simp] theorem resetEvent_PORT (s : State) : (resetEvent s).PORT = s.PORT := rfl
@[simp] theorem resetEvent_DRAWS (s : State) : (resetEvent s).DRAWS = s.DRAWS + 11 := rfl
@[simp] theorem resetEvent_EVERERR (s : State) : (resetEvent s).EVERERR = s.EVERERR := rfl

/-! ### shiftInput -/

@[simp] theorem State.shiftInput_A (s : State) : (s.shiftInput).A = s.A := rfl
@[simp] theorem State.shiftInput_B (s : State) : (s.shiftInput).B = s.B := rfl
@[simp] theorem State.shiftInput_C (s : State) : (s.shiftInput).C = s.C := rfl
@[simp] theorem State.shiftInput_D (s : State) : (s.shiftInput).D = s.D := rfl
@[simp] theorem State.shiftInput_AA (s : State) : (s.shiftInput).AA = s.AA := rfl
@[simp] theorem State.shiftInput_BB (s : State) : (s.shiftInput).BB = s.BB := rfl
@[simp] theorem State.shiftInput_CC (s : State) : (s.shiftInput).CC = s.CC := rfl
@[simp] theorem State.shiftInput_DD (s : State) : (s.shiftInput).DD = s.DD := rfl
@[simp] theorem State.shiftInput_BUF (s : State) : (s.shiftInput).BUF = s.BUF := rfl
@[simp] theorem State.shiftInput_CNT (s : State) : (s.shiftInput).CNT = s.CNT := rfl
@[simp] theorem State.shiftInput_LEN (s : State) : (s.shiftInput).LEN = s.LEN := rfl
@[simp] theorem State.shiftInput_PHASE (s : State) : (s.shiftInput).PHASE = s.PHASE := rfl
@[simp] theorem State.shiftInput_SEQ (s : State) : (s.shiftInput).SEQ = s.SEQ := rfl
@[simp] theorem State.shiftInput_T (s : State) : (s.shiftInput).T = s.T := rfl
@[simp] theorem State.shiftInput_FIN (s : State) : (s.shiftInput).FIN = s.FIN := rfl
@[simp] theorem State.shiftInput_LAST (s : State) : (s.shiftInput).LAST = s.LAST := rfl
@[simp] theorem State.shiftInput_ERR (s : State) : (s.shiftInput).ERR = s.ERR := rfl
@[simp] theorem State.shiftInput_ERRCODE (s : State) : (s.shiftInput).ERRCODE = s.ERRCODE := rfl
@[simp] theorem State.shiftInput_PORT (s : State) : (s.shiftInput).PORT = s.PORT.tail := rfl
@[simp] theorem State.shiftInput_DRAWS (s : State) : (s.shiftInput).DRAWS = s.DRAWS := rfl
@[simp] theorem State.shiftInput_EVERERR (s : State) : (s.shiftInput).EVERERR = s.EVERERR := rfl

/-! ### The accumulators as tuples -/

@[simp] theorem State.quad_withQuad (s : State) (w : Quad) : (s.withQuad w).quad = w := rfl

@[simp] theorem State.savedQuad_withQuad (s : State) (w : Quad) : (s.withQuad w).savedQuad = s.savedQuad := rfl

@[simp] theorem State.quad_startBlock (s : State) : (startBlock s).quad = s.quad := rfl

@[simp] theorem State.savedQuad_startBlock (s : State) : (startBlock s).savedQuad = s.quad := rfl

@[simp] theorem State.quad_raiseUsageError (code : Cause) (s : State) : (raiseUsageError code s).quad = s.quad := rfl

@[simp] theorem State.savedQuad_raiseUsageError (code : Cause) (s : State) :
    (raiseUsageError code s).savedQuad = s.savedQuad := rfl

@[simp] theorem State.quad_shiftInput (s : State) : s.shiftInput.quad = s.quad := rfl

@[simp] theorem State.savedQuad_shiftInput (s : State) : s.shiftInput.savedQuad = s.savedQuad := rfl

theorem State.withQuad_quad (s : State) : s.withQuad s.quad = s := rfl

theorem Quad.ext_iff' (w v : Quad) : w = v ↔ w.a = v.a ∧ w.b = v.b ∧ w.c = v.c ∧ w.d = v.d := by
  cases w; cases v; simp

end Sys2Proof.Machine
end

