-- ==== Sys2Proof/Laws/Ops.lean ====
section
/-! SUPPORT. What each shared operation does: its fields, and, for an operation that can stop, when it answers a next state. -/

namespace Sys2Proof.Machine

/-! ### accept and whenSelected -/

theorem accept_ready (s e : State) (h : s.SEQ = .ready) : accept s e = .next e := by simp [accept, h]

theorem accept_busy (s e : State) (h : s.SEQ ≠ .ready) : accept s e = .next s := by simp [accept, h]

@[simp] theorem whenSelected_true (e s : State) : whenSelected true e s = .next e := rfl

@[simp] theorem whenSelected_false (e s : State) : whenSelected false e s = .next s := rfl

/-! ### appendByte -/

theorem appendByte_last (v : Byte) (s : State) (h : s.CNT = 63) :
    appendByte v s = startBlock { s with BUF := bufWrite s.BUF s.CNT v, CNT := 0 } := by simp [appendByte, h]

theorem appendByte_inner (v : Byte) (s : State) (h : s.CNT ≠ 63) :
    appendByte v s = { s with BUF := bufWrite s.BUF s.CNT v, CNT := s.CNT + 1 } := by
  simp only [appendByte, if_neg h, memWrite_one]

@[simp] theorem appendByte_A (v : Byte) (s : State) : (appendByte v s).A = s.A := by
  unfold appendByte; split <;> simp

@[simp] theorem appendByte_B (v : Byte) (s : State) : (appendByte v s).B = s.B := by
  unfold appendByte; split <;> simp

@[simp] theorem appendByte_C (v : Byte) (s : State) : (appendByte v s).C = s.C := by
  unfold appendByte; split <;> simp

@[simp] theorem appendByte_D (v : Byte) (s : State) : (appendByte v s).D = s.D := by
  unfold appendByte; split <;> simp

@[simp] theorem appendByte_LEN (v : Byte) (s : State) : (appendByte v s).LEN = s.LEN := by
  unfold appendByte; split <;> simp

@[simp] theorem appendByte_PHASE (v : Byte) (s : State) : (appendByte v s).PHASE = s.PHASE := by
  unfold appendByte; split <;> simp

@[simp] theorem appendByte_FIN (v : Byte) (s : State) : (appendByte v s).FIN = s.FIN := by
  unfold appendByte; split <;> simp

@[simp] theorem appendByte_LAST (v : Byte) (s : State) : (appendByte v s).LAST = s.LAST := by
  unfold appendByte; split <;> simp

@[simp] theorem appendByte_ERR (v : Byte) (s : State) : (appendByte v s).ERR = s.ERR := by
  unfold appendByte; split <;> simp

@[simp] theorem appendByte_ERRCODE (v : Byte) (s : State) : (appendByte v s).ERRCODE = s.ERRCODE := by
  unfold appendByte; split <;> simp

@[simp] theorem appendByte_PORT (v : Byte) (s : State) : (appendByte v s).PORT = s.PORT := by
  unfold appendByte; split <;> simp

@[simp] theorem appendByte_DRAWS (v : Byte) (s : State) : (appendByte v s).DRAWS = s.DRAWS := by
  unfold appendByte; split <;> simp

@[simp] theorem appendByte_EVERERR (v : Byte) (s : State) : (appendByte v s).EVERERR = s.EVERERR := by
  unfold appendByte; split <;> simp

@[simp] theorem appendByte_BUF (v : Byte) (s : State) : (appendByte v s).BUF = bufWrite s.BUF s.CNT v := by
  unfold appendByte; split <;> simp

@[simp] theorem appendByte_quad (v : Byte) (s : State) : (appendByte v s).quad = s.quad := by
  simp [State.quad]

theorem appendByte_CNT (v : Byte) (s : State) : (appendByte v s).CNT = s.CNT + 1 := by
  by_cases h : s.CNT = 63
  · rw [appendByte_last v s h, h]; rfl
  · rw [appendByte_inner v s h]

theorem appendByte_SEQ (v : Byte) (s : State) : (appendByte v s).SEQ = if s.CNT = 63 then .op else s.SEQ := by
  unfold appendByte; split <;> simp

theorem appendByte_T (v : Byte) (s : State) : (appendByte v s).T = if s.CNT = 63 then 0 else s.T := by
  unfold appendByte; split <;> simp

theorem appendByte_savedQuad (v : Byte) (s : State) :
    (appendByte v s).savedQuad = if s.CNT = 63 then s.quad else s.savedQuad := by
  unfold appendByte; split <;> rfl

/-! ### sequenceOp and afterChain -/

@[simp] theorem sequenceOp_A (i : BitVec 6) (s : State) : (sequenceOp i s).A = s.A := by
  unfold sequenceOp; split <;> rfl

@[simp] theorem sequenceOp_B (i : BitVec 6) (s : State) : (sequenceOp i s).B = s.B := by
  unfold sequenceOp; split <;> rfl

@[simp] theorem sequenceOp_C (i : BitVec 6) (s : State) : (sequenceOp i s).C = s.C := by
  unfold sequenceOp; split <;> rfl

@[simp] theorem sequenceOp_D (i : BitVec 6) (s : State) : (sequenceOp i s).D = s.D := by
  unfold sequenceOp; split <;> rfl

@[simp] theorem sequenceOp_AA (i : BitVec 6) (s : State) : (sequenceOp i s).AA = s.AA := by
  unfold sequenceOp; split <;> rfl

@[simp] theorem sequenceOp_BB (i : BitVec 6) (s : State) : (sequenceOp i s).BB = s.BB := by
  unfold sequenceOp; split <;> rfl

@[simp] theorem sequenceOp_CC (i : BitVec 6) (s : State) : (sequenceOp i s).CC = s.CC := by
  unfold sequenceOp; split <;> rfl

@[simp] theorem sequenceOp_DD (i : BitVec 6) (s : State) : (sequenceOp i s).DD = s.DD := by
  unfold sequenceOp; split <;> rfl

@[simp] theorem sequenceOp_BUF (i : BitVec 6) (s : State) : (sequenceOp i s).BUF = s.BUF := by
  unfold sequenceOp; split <;> rfl

@[simp] theorem sequenceOp_CNT (i : BitVec 6) (s : State) : (sequenceOp i s).CNT = s.CNT := by
  unfold sequenceOp; split <;> rfl

@[simp] theorem sequenceOp_LEN (i : BitVec 6) (s : State) : (sequenceOp i s).LEN = s.LEN := by
  unfold sequenceOp; split <;> rfl

@[simp] theorem sequenceOp_PHASE (i : BitVec 6) (s : State) : (sequenceOp i s).PHASE = s.PHASE := by
  unfold sequenceOp; split <;> rfl

@[simp] theorem sequenceOp_FIN (i : BitVec 6) (s : State) : (sequenceOp i s).FIN = s.FIN := by
  unfold sequenceOp; split <;> rfl

@[simp] theorem sequenceOp_LAST (i : BitVec 6) (s : State) : (sequenceOp i s).LAST = s.LAST := by
  unfold sequenceOp; split <;> rfl

@[simp] theorem sequenceOp_ERR (i : BitVec 6) (s : State) : (sequenceOp i s).ERR = s.ERR := by
  unfold sequenceOp; split <;> rfl

@[simp] theorem sequenceOp_ERRCODE (i : BitVec 6) (s : State) : (sequenceOp i s).ERRCODE = s.ERRCODE := by
  unfold sequenceOp; split <;> rfl

@[simp] theorem sequenceOp_PORT (i : BitVec 6) (s : State) : (sequenceOp i s).PORT = s.PORT := by
  unfold sequenceOp; split <;> rfl

@[simp] theorem sequenceOp_DRAWS (i : BitVec 6) (s : State) : (sequenceOp i s).DRAWS = s.DRAWS := by
  unfold sequenceOp; split <;> rfl

@[simp] theorem sequenceOp_EVERERR (i : BitVec 6) (s : State) : (sequenceOp i s).EVERERR = s.EVERERR := by
  unfold sequenceOp; split <;> rfl

theorem sequenceOp_SEQ (i : BitVec 6) (s : State) : (sequenceOp i s).SEQ = if i = 63 then .chain else s.SEQ := by
  unfold sequenceOp; split <;> rfl

theorem sequenceOp_T (i : BitVec 6) (s : State) : (sequenceOp i s).T = if i = 63 then s.T else i + 1 := by
  unfold sequenceOp; split <;> rfl

@[simp] theorem sequenceOp_quad (i : BitVec 6) (s : State) : (sequenceOp i s).quad = s.quad := by simp [State.quad]

@[simp] theorem sequenceOp_savedQuad (i : BitVec 6) (s : State) : (sequenceOp i s).savedQuad = s.savedQuad := by
  simp [State.savedQuad]

@[simp] theorem afterChain_A (s : State) : (afterChain s).A = s.A := by
  unfold afterChain; split_ifs <;> rfl

@[simp] theorem afterChain_B (s : State) : (afterChain s).B = s.B := by
  unfold afterChain; split_ifs <;> rfl

@[simp] theorem afterChain_C (s : State) : (afterChain s).C = s.C := by
  unfold afterChain; split_ifs <;> rfl

@[simp] theorem afterChain_D (s : State) : (afterChain s).D = s.D := by
  unfold afterChain; split_ifs <;> rfl

@[simp] theorem afterChain_AA (s : State) : (afterChain s).AA = s.AA := by
  unfold afterChain; split_ifs <;> rfl

@[simp] theorem afterChain_BB (s : State) : (afterChain s).BB = s.BB := by
  unfold afterChain; split_ifs <;> rfl

@[simp] theorem afterChain_CC (s : State) : (afterChain s).CC = s.CC := by
  unfold afterChain; split_ifs <;> rfl

@[simp] theorem afterChain_DD (s : State) : (afterChain s).DD = s.DD := by
  unfold afterChain; split_ifs <;> rfl

@[simp] theorem afterChain_BUF (s : State) : (afterChain s).BUF = s.BUF := by
  unfold afterChain; split_ifs <;> rfl

@[simp] theorem afterChain_CNT (s : State) : (afterChain s).CNT = s.CNT := by
  unfold afterChain; split_ifs <;> rfl

@[simp] theorem afterChain_LEN (s : State) : (afterChain s).LEN = s.LEN := by
  unfold afterChain; split_ifs <;> rfl

@[simp] theorem afterChain_T (s : State) : (afterChain s).T = s.T := by
  unfold afterChain; split_ifs <;> rfl

@[simp] theorem afterChain_ERR (s : State) : (afterChain s).ERR = s.ERR := by
  unfold afterChain; split_ifs <;> rfl

@[simp] theorem afterChain_ERRCODE (s : State) : (afterChain s).ERRCODE = s.ERRCODE := by
  unfold afterChain; split_ifs <;> rfl

@[simp] theorem afterChain_PORT (s : State) : (afterChain s).PORT = s.PORT := by
  unfold afterChain; split_ifs <;> rfl

@[simp] theorem afterChain_DRAWS (s : State) : (afterChain s).DRAWS = s.DRAWS := by
  unfold afterChain; split_ifs <;> rfl

@[simp] theorem afterChain_EVERERR (s : State) : (afterChain s).EVERERR = s.EVERERR := by
  unfold afterChain; split_ifs <;> rfl

@[simp] theorem afterChain_quad (s : State) : (afterChain s).quad = s.quad := by simp [State.quad]

@[simp] theorem afterChain_savedQuad (s : State) : (afterChain s).savedQuad = s.savedQuad := by simp [State.savedQuad]

theorem afterChain_SEQ (s : State) :
    (afterChain s).SEQ = if s.FIN = false then .ready else if s.LAST = true then .ready else .pad := by
  unfold afterChain; split_ifs <;> rfl

theorem afterChain_PHASE (s : State) :
    (afterChain s).PHASE = if s.FIN = true ∧ s.LAST = true then .done else s.PHASE := by
  unfold afterChain
  cases hf : s.FIN <;> cases hl : s.LAST <;> simp

theorem afterChain_FIN (s : State) : (afterChain s).FIN = (s.FIN && !s.LAST) := by
  unfold afterChain
  cases hf : s.FIN <;> cases hl : s.LAST <;> simp

theorem afterChain_LAST (s : State) : (afterChain s).LAST = (s.LAST && !s.FIN) := by
  unfold afterChain
  cases hf : s.FIN <;> cases hl : s.LAST <;> simp

/-! ### execOp -/

/-- What an operation does to an enabled state whose message word is m. -/
def opResult (f m : Word) (i : BitVec 6) (s : State) : State :=
  sequenceOp i (s.withQuad (rotateRoles s.quad (opSum s.quad f (K i) m) (S i)))

theorem execOp_disabled (f : Word) (j : BitVec 4) (i : BitVec 6) (s : State) (h : ¬ (s.SEQ = .op ∧ s.T = i)) :
    execOp f j i s = .next s := by
  unfold execOp; rw [if_neg h]

theorem execOp_ok (f : Word) (j : BitVec 4) (i : BitVec 6) (s : State) (m : Word) (hs : s.SEQ = .op) (ht : s.T = i)
    (hm : M s.BUF j = .ok m) : execOp f j i s = .next (opResult f m i s) := by
  unfold execOp; rw [if_pos ⟨hs, ht⟩, hm]; rfl

theorem execOp_fault (f : Word) (j : BitVec 4) (i : BitVec 6) (s : State) (e : Fault) (hs : s.SEQ = .op) (ht : s.T = i)
    (hm : M s.BUF j = .error e) : execOp f j i s = .fault e := by
  unfold execOp; rw [if_pos ⟨hs, ht⟩, hm]

/-- If an operation answers a next state, it was not enabled and nothing changed, or it read its word and did its work. -/
theorem execOp_next (f : Word) (j : BitVec 4) (i : BitVec 6) (s t : State) (h : execOp f j i s = .next t) :
    (¬ (s.SEQ = .op ∧ s.T = i) ∧ t = s) ∨
    (s.SEQ = .op ∧ s.T = i ∧ ∃ m, M s.BUF j = .ok m ∧ t = opResult f m i s) := by
  by_cases he : s.SEQ = .op ∧ s.T = i
  · right
    cases hm : M s.BUF j with
    | ok m =>
      rw [execOp_ok f j i s m he.1 he.2 hm] at h
      cases h
      exact ⟨he.1, he.2, m, rfl, rfl⟩
    | error e => rw [execOp_fault f j i s e he.1 he.2 hm] at h; cases h
  · rw [execOp_disabled f j i s he] at h
    cases h
    exact .inl ⟨he, rfl⟩

@[simp] theorem opResult_quad (f m : Word) (i : BitVec 6) (s : State) :
    (opResult f m i s).quad = rotateRoles s.quad (opSum s.quad f (K i) m) (S i) := by simp [opResult]

@[simp] theorem opResult_savedQuad (f m : Word) (i : BitVec 6) (s : State) :
    (opResult f m i s).savedQuad = s.savedQuad := by simp [opResult]

theorem opResult_SEQ (f m : Word) (i : BitVec 6) (s : State) :
    (opResult f m i s).SEQ = if i = 63 then .chain else s.SEQ := by simp [opResult, sequenceOp_SEQ]

theorem opResult_T (f m : Word) (i : BitVec 6) (s : State) :
    (opResult f m i s).T = if i = 63 then s.T else i + 1 := by simp [opResult, sequenceOp_T]

@[simp] theorem opResult_AA (f m : Word) (i : BitVec 6) (s : State) : (opResult f m i s).AA = s.AA := by
  simp [opResult]

@[simp] theorem opResult_BB (f m : Word) (i : BitVec 6) (s : State) : (opResult f m i s).BB = s.BB := by
  simp [opResult]

@[simp] theorem opResult_CC (f m : Word) (i : BitVec 6) (s : State) : (opResult f m i s).CC = s.CC := by
  simp [opResult]

@[simp] theorem opResult_DD (f m : Word) (i : BitVec 6) (s : State) : (opResult f m i s).DD = s.DD := by
  simp [opResult]

@[simp] theorem opResult_BUF (f m : Word) (i : BitVec 6) (s : State) : (opResult f m i s).BUF = s.BUF := by
  simp [opResult]

@[simp] theorem opResult_CNT (f m : Word) (i : BitVec 6) (s : State) : (opResult f m i s).CNT = s.CNT := by
  simp [opResult]

@[simp] theorem opResult_LEN (f m : Word) (i : BitVec 6) (s : State) : (opResult f m i s).LEN = s.LEN := by
  simp [opResult]

@[simp] theorem opResult_PHASE (f m : Word) (i : BitVec 6) (s : State) : (opResult f m i s).PHASE = s.PHASE := by
  simp [opResult]

@[simp] theorem opResult_FIN (f m : Word) (i : BitVec 6) (s : State) : (opResult f m i s).FIN = s.FIN := by
  simp [opResult]

@[simp] theorem opResult_LAST (f m : Word) (i : BitVec 6) (s : State) : (opResult f m i s).LAST = s.LAST := by
  simp [opResult]

@[simp] theorem opResult_ERR (f m : Word) (i : BitVec 6) (s : State) : (opResult f m i s).ERR = s.ERR := by
  simp [opResult]

@[simp] theorem opResult_ERRCODE (f m : Word) (i : BitVec 6) (s : State) : (opResult f m i s).ERRCODE = s.ERRCODE := by
  simp [opResult]

@[simp] theorem opResult_PORT (f m : Word) (i : BitVec 6) (s : State) : (opResult f m i s).PORT = s.PORT := by
  simp [opResult]

@[simp] theorem opResult_DRAWS (f m : Word) (i : BitVec 6) (s : State) : (opResult f m i s).DRAWS = s.DRAWS := by
  simp [opResult]

@[simp] theorem opResult_EVERERR (f m : Word) (i : BitVec 6) (s : State) : (opResult f m i s).EVERERR = s.EVERERR := by
  simp [opResult]

end Sys2Proof.Machine
end

