-- ==== Sys2Proof/Laws/PerInstr.lean ====
section
/-! SUPPORT. A lemma for each instruction about it as syntax: its selector decodes to it (R61, R65, R70). -/

namespace Sys2Proof

/-- Encoding the instruction and decoding gives it back. -/
def Laws.RoundTrip.Statement (i : Instr) : Prop := decode (encode i) = i

theorem commandWord_op (op : BitVec 2) (data : Byte) : (commandWord op data).extractLsb' 8 2 = op :=
  BitVec.extractLsb'_append_eq_left

theorem commandWord_data (op : BitVec 2) (data : Byte) : (commandWord op data).extractLsb' 0 8 = data :=
  BitVec.extractLsb'_append_eq_right

theorem Laws.RoundTrip.rsvd (data : Byte) : Laws.RoundTrip.Statement (.rsvd data) := by
  simp [Laws.RoundTrip.Statement, encode, decode, decodeCmd, commandWord_op, commandWord_data]

theorem Laws.RoundTrip.init (data : Byte) : Laws.RoundTrip.Statement (.init data) := by
  simp [Laws.RoundTrip.Statement, encode, decode, decodeCmd, commandWord_op, commandWord_data]

theorem Laws.RoundTrip.update (data : Byte) : Laws.RoundTrip.Statement (.update data) := by
  simp [Laws.RoundTrip.Statement, encode, decode, decodeCmd, commandWord_op, commandWord_data]

theorem Laws.RoundTrip.final (data : Byte) : Laws.RoundTrip.Statement (.final data) := by
  simp [Laws.RoundTrip.Statement, encode, decode, decodeCmd, commandWord_op, commandWord_data]

theorem Laws.RoundTrip.ff0 : Laws.RoundTrip.Statement .ff0 := rfl

theorem Laws.RoundTrip.ff1 : Laws.RoundTrip.Statement .ff1 := rfl

theorem Laws.RoundTrip.ff2 : Laws.RoundTrip.Statement .ff2 := rfl

theorem Laws.RoundTrip.ff3 : Laws.RoundTrip.Statement .ff3 := rfl

theorem Laws.RoundTrip.ff4 : Laws.RoundTrip.Statement .ff4 := rfl

theorem Laws.RoundTrip.ff5 : Laws.RoundTrip.Statement .ff5 := rfl

theorem Laws.RoundTrip.ff6 : Laws.RoundTrip.Statement .ff6 := rfl

theorem Laws.RoundTrip.ff7 : Laws.RoundTrip.Statement .ff7 := rfl

theorem Laws.RoundTrip.ff8 : Laws.RoundTrip.Statement .ff8 := rfl

theorem Laws.RoundTrip.ff9 : Laws.RoundTrip.Statement .ff9 := rfl

theorem Laws.RoundTrip.ff10 : Laws.RoundTrip.Statement .ff10 := rfl

theorem Laws.RoundTrip.ff11 : Laws.RoundTrip.Statement .ff11 := rfl

theorem Laws.RoundTrip.ff12 : Laws.RoundTrip.Statement .ff12 := rfl

theorem Laws.RoundTrip.ff13 : Laws.RoundTrip.Statement .ff13 := rfl

theorem Laws.RoundTrip.ff14 : Laws.RoundTrip.Statement .ff14 := rfl

theorem Laws.RoundTrip.ff15 : Laws.RoundTrip.Statement .ff15 := rfl

theorem Laws.RoundTrip.gg16 : Laws.RoundTrip.Statement .gg16 := rfl

theorem Laws.RoundTrip.gg17 : Laws.RoundTrip.Statement .gg17 := rfl

theorem Laws.RoundTrip.gg18 : Laws.RoundTrip.Statement .gg18 := rfl

theorem Laws.RoundTrip.gg19 : Laws.RoundTrip.Statement .gg19 := rfl

theorem Laws.RoundTrip.gg20 : Laws.RoundTrip.Statement .gg20 := rfl

theorem Laws.RoundTrip.gg21 : Laws.RoundTrip.Statement .gg21 := rfl

theorem Laws.RoundTrip.gg22 : Laws.RoundTrip.Statement .gg22 := rfl

theorem Laws.RoundTrip.gg23 : Laws.RoundTrip.Statement .gg23 := rfl

theorem Laws.RoundTrip.gg24 : Laws.RoundTrip.Statement .gg24 := rfl

theorem Laws.RoundTrip.gg25 : Laws.RoundTrip.Statement .gg25 := rfl

theorem Laws.RoundTrip.gg26 : Laws.RoundTrip.Statement .gg26 := rfl

theorem Laws.RoundTrip.gg27 : Laws.RoundTrip.Statement .gg27 := rfl

theorem Laws.RoundTrip.gg28 : Laws.RoundTrip.Statement .gg28 := rfl

theorem Laws.RoundTrip.gg29 : Laws.RoundTrip.Statement .gg29 := rfl

theorem Laws.RoundTrip.gg30 : Laws.RoundTrip.Statement .gg30 := rfl

theorem Laws.RoundTrip.gg31 : Laws.RoundTrip.Statement .gg31 := rfl

theorem Laws.RoundTrip.hh32 : Laws.RoundTrip.Statement .hh32 := rfl

theorem Laws.RoundTrip.hh33 : Laws.RoundTrip.Statement .hh33 := rfl

theorem Laws.RoundTrip.hh34 : Laws.RoundTrip.Statement .hh34 := rfl

theorem Laws.RoundTrip.hh35 : Laws.RoundTrip.Statement .hh35 := rfl

theorem Laws.RoundTrip.hh36 : Laws.RoundTrip.Statement .hh36 := rfl

theorem Laws.RoundTrip.hh37 : Laws.RoundTrip.Statement .hh37 := rfl

theorem Laws.RoundTrip.hh38 : Laws.RoundTrip.Statement .hh38 := rfl

theorem Laws.RoundTrip.hh39 : Laws.RoundTrip.Statement .hh39 := rfl

theorem Laws.RoundTrip.hh40 : Laws.RoundTrip.Statement .hh40 := rfl

theorem Laws.RoundTrip.hh41 : Laws.RoundTrip.Statement .hh41 := rfl

theorem Laws.RoundTrip.hh42 : Laws.RoundTrip.Statement .hh42 := rfl

theorem Laws.RoundTrip.hh43 : Laws.RoundTrip.Statement .hh43 := rfl

theorem Laws.RoundTrip.hh44 : Laws.RoundTrip.Statement .hh44 := rfl

theorem Laws.RoundTrip.hh45 : Laws.RoundTrip.Statement .hh45 := rfl

theorem Laws.RoundTrip.hh46 : Laws.RoundTrip.Statement .hh46 := rfl

theorem Laws.RoundTrip.hh47 : Laws.RoundTrip.Statement .hh47 := rfl

theorem Laws.RoundTrip.ii48 : Laws.RoundTrip.Statement .ii48 := rfl

theorem Laws.RoundTrip.ii49 : Laws.RoundTrip.Statement .ii49 := rfl

theorem Laws.RoundTrip.ii50 : Laws.RoundTrip.Statement .ii50 := rfl

theorem Laws.RoundTrip.ii51 : Laws.RoundTrip.Statement .ii51 := rfl

theorem Laws.RoundTrip.ii52 : Laws.RoundTrip.Statement .ii52 := rfl

theorem Laws.RoundTrip.ii53 : Laws.RoundTrip.Statement .ii53 := rfl

theorem Laws.RoundTrip.ii54 : Laws.RoundTrip.Statement .ii54 := rfl

theorem Laws.RoundTrip.ii55 : Laws.RoundTrip.Statement .ii55 := rfl

theorem Laws.RoundTrip.ii56 : Laws.RoundTrip.Statement .ii56 := rfl

theorem Laws.RoundTrip.ii57 : Laws.RoundTrip.Statement .ii57 := rfl

theorem Laws.RoundTrip.ii58 : Laws.RoundTrip.Statement .ii58 := rfl

theorem Laws.RoundTrip.ii59 : Laws.RoundTrip.Statement .ii59 := rfl

theorem Laws.RoundTrip.ii60 : Laws.RoundTrip.Statement .ii60 := rfl

theorem Laws.RoundTrip.ii61 : Laws.RoundTrip.Statement .ii61 := rfl

theorem Laws.RoundTrip.ii62 : Laws.RoundTrip.Statement .ii62 := rfl

theorem Laws.RoundTrip.ii63 : Laws.RoundTrip.Statement .ii63 := rfl

theorem Laws.RoundTrip.chain : Laws.RoundTrip.Statement .chain := rfl

theorem Laws.RoundTrip.padz : Laws.RoundTrip.Statement .padz := rfl

theorem Laws.RoundTrip.padl : Laws.RoundTrip.Statement .padl := rfl

end Sys2Proof
end

