-- ==== Sys2Proof/Laws/Schedule.lean ====
section
/-! SUPPORT. The 64 operations as one: the instruction of an index, its function, word index, rotation and constant, and that the
schedule R113 prints is the one R96 to R99 compute. -/

namespace Sys2Proof.Machine

/-- A property of all 64 operation indices, from its 64 cases. -/
theorem forall_index {p : BitVec 6 → Prop} (h : ∀ n : Fin 64, p (BitVec.ofFin n)) (i : BitVec 6) : p i := h i.toFin

/-- The instruction that an index selects is the operation of that index (R96, R99, R103 to R106). -/
theorem exec_decodeStep (i : BitVec 6) (s : State) :
    exec (decodeStep i) s = execOp (NL i s.B s.C s.D) (g i) i s := by
  revert i
  refine forall_index fun n => ?_
  fin_cases n <;> rfl

/-- Every row of the schedule is the operation of its index, with the constants that R97 to R99 compute (R113). -/
theorem schedule_row : ∀ row ∈ schedule,
    decodeStep row.i = row.instr ∧ g row.i = row.g ∧ S row.i = row.s ∧ K row.i = row.k := by decide

/-- The schedule has a row for each index. -/
theorem schedule_covers (i : BitVec 6) : ∃ row ∈ schedule, row.i = i := by
  revert i; exact forall_index (by decide)

/-- An instruction of the schedule runs as the operation of its row. -/
theorem exec_row (row : ScheduleRow) (h : row ∈ schedule) (s : State) :
    exec row.instr s = execOp (NL row.i s.B s.C s.D) row.g row.i s := by
  obtain ⟨hi, hg, -, -⟩ := schedule_row row h
  rw [← hi, exec_decodeStep, hg]

/-- The function of each round group (R96). -/
theorem NL_group :
    (∀ row ∈ ffSchedule, NL row.i = F) ∧ (∀ row ∈ ggSchedule, NL row.i = G) ∧
    (∀ row ∈ hhSchedule, NL row.i = H) ∧ (∀ row ∈ iiSchedule, NL row.i = I) := by
  refine ⟨?_, ?_, ?_, ?_⟩ <;> intro row h <;> simp only [ffSchedule, ggSchedule, hhSchedule, iiSchedule, List.mem_cons,
    List.not_mem_nil, or_false] at h <;> rcases h with h | h | h | h | h | h | h | h | h | h | h | h | h | h | h | h <;>
    subst h <;> rfl

end Sys2Proof.Machine
end

