-- ==== Sys2Proof/Laws/Step.lean ====
section
/-! SUPPORT. Everything a step can do, said once: one lemma for the commands, one for the whole step. -/

namespace Sys2Proof.Machine

/-! ### The commands -/

/-- What UPDATE does in a ready state. -/
def updateEffect (data : Byte) (s : State) : State :=
  match s.PHASE with
  | .absorb => appendByte data { s with LEN := s.LEN + 8 }
  | .done => raiseUsageError .updateAfterFinal s
  | .idle => raiseUsageError .noComputation s

/-- What FINAL does in a ready state. -/
def finalEffect (s : State) : State :=
  match s.PHASE with
  | .absorb => appendByte 0x80 { s with FIN := true, LAST := false, SEQ := .pad }
  | .done => raiseUsageError .finalAfterFinal s
  | .idle => raiseUsageError .noComputation s

/-- What INIT does in a ready state. -/
def initEffect (s : State) : State :=
  { s.withQuad IV with
    LEN := 0, CNT := 0, PHASE := .absorb, FIN := false, LAST := false, ERR := false, ERRCODE := .none }

theorem exec_rsvd (data : Byte) (s : State) (h : s.SEQ = .ready) :
    exec (.rsvd data) s = .next (raiseUsageError .reservedCommand s) := accept_ready _ _ h

theorem exec_init (data : Byte) (s : State) (h : s.SEQ = .ready) : exec (.init data) s = .next (initEffect s) :=
  accept_ready _ _ h

theorem exec_update (data : Byte) (s : State) (h : s.SEQ = .ready) :
    exec (.update data) s = .next (updateEffect data s) := accept_ready _ _ h

theorem exec_final (data : Byte) (s : State) (h : s.SEQ = .ready) : exec (.final data) s = .next (finalEffect s) :=
  accept_ready _ _ h

/-- A command word decodes to one of the four commands. -/
theorem decodeCmd_cases (word : BitVec 10) :
    (∃ data, decodeCmd word = .rsvd data) ∨ (∃ data, decodeCmd word = .init data) ∨
    (∃ data, decodeCmd word = .update data) ∨ (∃ data, decodeCmd word = .final data) := by
  unfold decodeCmd
  simp only
  split_ifs
  · exact .inl ⟨_, rfl⟩
  · exact .inr (.inl ⟨_, rfl⟩)
  · exact .inr (.inr (.inl ⟨_, rfl⟩))
  · exact .inr (.inr (.inr ⟨_, rfl⟩))

/-! ### The micro-steps -/

theorem exec_chain (s : State) (h : s.SEQ = .chain) :
    exec .chain s = .next (afterChain (s.withQuad (s.quad.add s.savedQuad))) := by
  simp [exec, execChain, h]

theorem exec_padz (s : State) (h : s.SEQ = .pad) (hc : s.CNT ≠ 56) : exec .padz s = .next (appendByte 0x00 s) := by
  have : (s.SEQ == .pad && s.CNT != 56) = true := by
    rw [h, bne_iff_ne.mpr hc]; rfl
  simp only [exec, execPadz, this, whenSelected_true]

/-- What PADL does where it is selected. -/
def padlEffect (s : State) : State :=
  startBlock { s with BUF := memWrite s.BUF 56 8 s.LEN.toNat, CNT := 0, LAST := true }

theorem exec_padl (s : State) (h : s.SEQ = .pad) (hc : s.CNT = 56) : exec .padl s = .next (padlEffect s) := by
  have : (s.SEQ == .pad && s.CNT == 56) = true := by simp [h, hc]
  simp only [exec, execPadl, this, whenSelected_true]
  rfl

/-! ### The step -/

theorem step_reset (s : State) (h : s.input.reset = true) : step s = .next (resetEvent s.shiftInput) := by
  simp [step, h]

theorem step_none (s : State) (h : s.input.reset = false) (hs : s.selected = none) : step s = .next s.shiftInput := by
  simp [step, h, hs]

theorem step_some (s : State) (selector : Selector) (h : s.input.reset = false) (hs : s.selected = some selector) :
    step s = exec (decode selector) s.shiftInput := by
  simp [step, h, hs]

theorem selected_ready (s : State) (h : s.SEQ = .ready) :
    s.selected = if s.input.cmdValid then some (.cmd s.input.cmd) else none := by simp [State.selected, h]

theorem selected_op (s : State) (h : s.SEQ = .op) : s.selected = some (.step s.T) := by simp [State.selected, h]

theorem selected_chain (s : State) (h : s.SEQ = .chain) : s.selected = some .chain := by simp [State.selected, h]

theorem selected_pad (s : State) (h : s.SEQ = .pad) : s.selected = some (.pad s.CNT) := by simp [State.selected, h]

theorem step_op (s : State) (h : s.input.reset = false) (hs : s.SEQ = .op) :
    step s = execOp (NL s.T s.B s.C s.D) (g s.T) s.T s.shiftInput := by
  rw [step_some s _ h (selected_op s hs)]
  exact exec_decodeStep s.T s.shiftInput

theorem step_chain (s : State) (h : s.input.reset = false) (hs : s.SEQ = .chain) :
    step s = .next (afterChain (s.shiftInput.withQuad (s.quad.add s.savedQuad))) := by
  rw [step_some s _ h (selected_chain s hs)]
  exact exec_chain s.shiftInput hs

theorem step_padz (s : State) (h : s.input.reset = false) (hs : s.SEQ = .pad) (hc : s.CNT ≠ 56) :
    step s = .next (appendByte 0x00 s.shiftInput) := by
  rw [step_some s _ h (selected_pad s hs)]
  simp only [decode, decodePad, if_neg hc]
  exact exec_padz s.shiftInput hs hc

theorem step_padl (s : State) (h : s.input.reset = false) (hs : s.SEQ = .pad) (hc : s.CNT = 56) :
    step s = .next (padlEffect s.shiftInput) := by
  rw [step_some s _ h (selected_pad s hs)]
  simp only [decode, decodePad, if_pos hc]
  exact exec_padl s.shiftInput hs hc

/-- The nine ways a step can answer a next state, with what it did. -/
inductive StepCase (s t : State) : Prop where
  | reset (h : s.input.reset = true) (e : t = resetEvent s.shiftInput)
  | waits (h : s.input.reset = false) (hs : s.SEQ = .ready) (hv : s.input.cmdValid = false) (e : t = s.shiftInput)
  | rsvd (h : s.input.reset = false) (hs : s.SEQ = .ready) (data : Byte)
      (ha : Safety.accepted s = some (.rsvd data)) (e : t = raiseUsageError .reservedCommand s.shiftInput)
  | init (h : s.input.reset = false) (hs : s.SEQ = .ready) (data : Byte)
      (ha : Safety.accepted s = some (.init data)) (e : t = initEffect s.shiftInput)
  | update (h : s.input.reset = false) (hs : s.SEQ = .ready) (data : Byte)
      (ha : Safety.accepted s = some (.update data)) (e : t = updateEffect data s.shiftInput)
  | final (h : s.input.reset = false) (hs : s.SEQ = .ready) (data : Byte)
      (ha : Safety.accepted s = some (.final data)) (e : t = finalEffect s.shiftInput)
  | op (h : s.input.reset = false) (hs : s.SEQ = .op) (m : Word) (hm : M s.BUF (g s.T) = .ok m)
      (e : t = opResult (NL s.T s.B s.C s.D) m s.T s.shiftInput)
  | chain (h : s.input.reset = false) (hs : s.SEQ = .chain)
      (e : t = afterChain (s.shiftInput.withQuad (s.quad.add s.savedQuad)))
  | padz (h : s.input.reset = false) (hs : s.SEQ = .pad) (hc : s.CNT ≠ 56) (e : t = appendByte 0x00 s.shiftInput)
  | padl (h : s.input.reset = false) (hs : s.SEQ = .pad) (hc : s.CNT = 56) (e : t = padlEffect s.shiftInput)

/-- A ready engine always answers a next state; which, by what the host drives. -/
theorem step_ready (s : State) (h : s.input.reset = false) (hs : s.SEQ = .ready) :
    ∃ t, step s = .next t ∧ StepCase s t := by
  cases hv : s.input.cmdValid with
  | false =>
    refine ⟨_, step_none s h (by simp [selected_ready s hs, hv]), .waits h hs hv rfl⟩
  | true =>
    have hsel : s.selected = some (.cmd s.input.cmd) := by simp [selected_ready s hs, hv]
    have hacc : Safety.accepted s = some (decodeCmd s.input.cmd) := by simp [Safety.accepted, h, hs, hv]
    rw [step_some s _ h hsel]
    simp only [decode]
    rcases decodeCmd_cases s.input.cmd with ⟨d, hd⟩ | ⟨d, hd⟩ | ⟨d, hd⟩ | ⟨d, hd⟩ <;> rw [hd] at hacc ⊢
    · exact ⟨_, exec_rsvd d s.shiftInput hs, .rsvd h hs d hacc rfl⟩
    · exact ⟨_, exec_init d s.shiftInput hs, .init h hs d hacc rfl⟩
    · exact ⟨_, exec_update d s.shiftInput hs, .update h hs d hacc rfl⟩
    · exact ⟨_, exec_final d s.shiftInput hs, .final h hs d hacc rfl⟩

/-- Everything a step that answers a next state can have done. -/
theorem step_cases (s t : State) (ht : step s = .next t) : StepCase s t := by
  cases h : s.input.reset with
  | true => rw [step_reset s h] at ht; cases ht; exact .reset h rfl
  | false =>
    cases hs : s.SEQ with
    | ready =>
      obtain ⟨t', ht', hc⟩ := step_ready s h hs
      rw [ht] at ht'; cases ht'; exact hc
    | op =>
      rw [step_op s h hs] at ht
      rcases execOp_next _ _ _ _ _ ht with ⟨hn, -⟩ | ⟨-, -, m, hm, e⟩
      · exact absurd ⟨hs, rfl⟩ hn
      · exact .op h hs m hm e
    | chain => rw [step_chain s h hs] at ht; cases ht; exact .chain h hs rfl
    | pad =>
      by_cases hc : s.CNT = 56
      · rw [step_padl s h hs hc] at ht; cases ht; exact .padl h hs hc rfl
      · rw [step_padz s h hs hc] at ht; cases ht; exact .padz h hs hc rfl

/-- A step stops only in an operation whose message word holds an unwritten byte; it is never refused. -/
theorem step_next_of_readable (s : State) (hr : s.SEQ = .op → ∃ m, M s.BUF (g s.T) = .ok m) : ∃ t, step s = .next t := by
  cases h : s.input.reset with
  | true => exact ⟨_, step_reset s h⟩
  | false =>
    cases hs : s.SEQ with
    | ready => obtain ⟨t, ht, -⟩ := step_ready s h hs; exact ⟨t, ht⟩
    | op =>
      obtain ⟨m, hm⟩ := hr hs
      exact ⟨_, (step_op s h hs).trans (execOp_ok _ _ _ _ m hs rfl hm)⟩
    | chain => exact ⟨_, step_chain s h hs⟩
    | pad =>
      by_cases hc : s.CNT = 56
      · exact ⟨_, step_padl s h hs hc⟩
      · exact ⟨_, step_padz s h hs hc⟩

end Sys2Proof.Machine
end

