-- ==== Sys2Proof/Laws/Script.lean ====
section
/-! SUPPORT. Running: a script in two parts, the run to a ready state, and the host's run, one step at a time. -/

namespace Sys2Proof.Machine

/-- A script in two parts runs as the first and then the second. -/
theorem runScript_append (first second : List ScriptLine) (s t : State) (h : runScript first s = .next t) :
    runScript (first ++ second) s = runScript second t := by
  induction first generalizing s with
  | nil => cases h; rfl
  | cons line rest ih =>
    simp only [runScript, List.cons_append] at h ⊢
    cases hl : runLine line s with
    | next s' => rw [hl] at h; exact ih s' h
    | fault e => rw [hl] at h; cases h
    | refused r => rw [hl] at h; cases h

theorem runToReady_ready (fuel : Nat) (s : State) (h : s.SEQ = .ready) : runToReady fuel s = .next s := by
  cases fuel with
  | zero => rfl
  | succ n => simp [runToReady, h]

theorem runToReady_busy (fuel : Nat) (s t : State) (h : s.SEQ ≠ .ready) (ht : step s = .next t) :
    runToReady (fuel + 1) s = runToReady fuel t := by
  simp [runToReady, h, ht]

/-- One more step of a run, for any machine of the host's interface. -/
theorem coreRun_succ (machine : Host.Core) (n : Nat) (s t : machine.State) (ht : machine.step s = .next t) :
    machine.run (n + 1) s = machine.run n t := by
  simp [Host.Core.run, ht]

/-- A run in two parts, for any machine of the host's interface. -/
theorem coreRun_add (machine : Host.Core) (m n : Nat) (s t : machine.State) (h : machine.run m s = .next t) :
    machine.run (m + n) s = machine.run n t := by
  induction m generalizing s with
  | zero => cases h; rw [Nat.zero_add]
  | succ m ih =>
    rw [Nat.add_right_comm]
    simp only [Host.Core.run] at h ⊢
    cases hst : machine.step s with
    | next s' => rw [hst] at h; exact ih s' h
    | fault e => rw [hst] at h; cases h
    | refused r => rw [hst] at h; cases h

/-- One more step of this machine's run. -/
theorem run_succ (n : Nat) (s t : State) (ht : step s = .next t) :
    Host.Core.run core (n + 1) s = Host.Core.run core n t := coreRun_succ core n s t ht

/-- This machine's run in two parts. -/
theorem run_add (m n : Nat) (s t : State) (h : Host.Core.run core m s = .next t) :
    Host.Core.run core (m + n) s = Host.Core.run core n t := coreRun_add core m n s t h

/-! ### The wait for a ready engine -/

/-- A bound on the micro-steps from a padding step on: to the length field and through the last block, or through the block that has
no room for it and one more. -/
def paddingSteps (s : State) : Nat :=
  if s.CNT.toNat ≤ 56 then 57 - s.CNT.toNat + 65
  else 64 - s.CNT.toNat + 65 + (if s.FIN = false ∨ s.LAST = true then 0 else 122)

/-- A bound on the micro-steps after the chaining step. -/
def stepsAfterChain (s : State) : Nat := if s.FIN = false ∨ s.LAST = true then 0 else paddingSteps s

/-- A bound on the micro-steps of any state to a ready state. -/
def stepsToReady (s : State) : Nat :=
  match s.SEQ with
  | .ready => 0
  | .op => 65 - s.T.toNat + stepsAfterChain s
  | .chain => 1 + stepsAfterChain s
  | .pad => paddingSteps s

theorem stepsToReady_le (s : State) : stepsToReady s ≤ busyBound := by
  have hp : paddingSteps s ≤ 194 := by unfold paddingSteps; split_ifs <;> omega
  have hc : stepsAfterChain s ≤ 194 := by unfold stepsAfterChain; split_ifs <;> omega
  unfold stepsToReady busyBound
  cases s.SEQ <;> simp only <;> omega

/-- Every micro-step of every busy state, reachable or not, comes nearer to a ready state. -/
theorem stepsToReady_step (s t : State) (hr : s.input.reset = false) (hs : s.SEQ ≠ .ready) (ht : step s = .next t) :
    stepsToReady t < stepsToReady s := by
  have next {c : BitVec 6} (h : c ≠ 63) : (c + 1).toNat = c.toNat + 1 := by
    have : c.toNat ≠ 63 := fun e => h (BitVec.eq_of_toNat_eq e)
    rw [BitVec.toNat_add]; simp; omega
  cases step_cases s t ht with
  | reset h => simp [hr] at h
  | waits h hs' | rsvd h hs' | init h hs' | update h hs' | final h hs' => exact absurd hs' hs
  | op h hs' m hm e =>
    subst e
    have hc : ∀ f m, stepsAfterChain (opResult f m s.T s.shiftInput) = stepsAfterChain s := by
      intro f m; simp [stepsAfterChain, paddingSteps]
    by_cases hT : s.T = 63
    · have hseq : (opResult (NL s.T s.B s.C s.D) m s.T s.shiftInput).SEQ = .chain := by rw [opResult_SEQ, if_pos hT]
      have : s.T.toNat = 63 := by rw [hT]; rfl
      simp only [stepsToReady, hseq, hs', hc]
      omega
    · have hseq : (opResult (NL s.T s.B s.C s.D) m s.T s.shiftInput).SEQ = .op := by
        rw [opResult_SEQ, if_neg hT]; exact hs'
      have := next hT
      have := s.T.isLt
      simp only [stepsToReady, hseq, hs', hc, opResult_T, if_neg hT]
      omega
  | chain h hs' e =>
    subst e
    cases hf : s.FIN <;> cases hl : s.LAST <;>
      simp [stepsToReady, stepsAfterChain, paddingSteps, hs', hf, hl, afterChain_SEQ, afterChain_FIN, afterChain_LAST]
  | padz h hs' hc e =>
    subst e
    have h56 : s.CNT.toNat ≠ 56 := fun e => hc (BitVec.eq_of_toNat_eq e)
    by_cases h63 : s.CNT = 63
    · simp [stepsToReady, stepsAfterChain, paddingSteps, hs', appendByte_SEQ, appendByte_T, appendByte_CNT, h63]
    · have hn := next h63
      have := s.CNT.isLt
      have hseq : (appendByte 0x00 s.shiftInput).SEQ = .pad := by
        rw [appendByte_SEQ, State.shiftInput_CNT, if_neg h63]; exact hs'
      simp only [stepsToReady, paddingSteps, hs', hseq, appendByte_CNT, State.shiftInput_CNT, hn, appendByte_FIN,
        appendByte_LAST, State.shiftInput_FIN, State.shiftInput_LAST]
      split_ifs <;> omega
  | padl h hs' hc e =>
    subst e
    simp [stepsToReady, stepsAfterChain, paddingSteps, hs', padlEffect, hc, startBlock]

/-- Every step uses up one input of the host. -/
theorem step_PORT (s t : State) (ht : step s = .next t) : t.PORT = s.PORT.tail := by
  cases step_cases s t ht with
  | reset h e | waits h hs hv e | rsvd h hs data ha e | init h hs data ha e | op h hs m hm e | chain h hs e
  | padz h hs hc e | padl h hs hc e => subst e; simp [raiseUsageError, initEffect, padlEffect, startBlock, resetEvent]
  | update h hs data ha e | final h hs data ha e =>
    subst e; simp only [updateEffect, finalEffect]; split <;> simp [raiseUsageError]

/-- The engine that answers a run to ready with the port idle is ready, from every state. -/
theorem runToReady_answers_ready (fuel : Nat) (s t : State) (hp : s.PORT = []) (hf : stepsToReady s ≤ fuel)
    (h : runToReady fuel s = .next t) : t.SEQ = .ready := by
  induction fuel generalizing s with
  | zero =>
    cases h
    by_contra hs
    have : stepsToReady t ≠ 0 := by
      unfold stepsToReady paddingSteps
      have := t.T.isLt
      have := t.CNT.isLt
      cases hq : t.SEQ <;> simp only <;> first | exact absurd hq hs | omega | (split_ifs <;> omega)
    omega
  | succ n ih =>
    by_cases hs : s.SEQ = .ready
    · rw [runToReady_ready _ _ hs] at h; cases h; exact hs
    · cases hst : step s with
      | next u =>
        rw [runToReady_busy n s u hs hst] at h
        have hr : s.input.reset = false := by simp [State.input, hp, PortInput.idle]
        have := stepsToReady_step s u hr hs hst
        exact ih u (by rw [step_PORT s u hst, hp]; rfl) (by omega) h
      | fault e => simp [runToReady, hs, hst] at h
      | refused r => simp [runToReady, hs, hst] at h

/-- From a ready state a line is driven at once. -/
theorem runLine_of_ready (line : ScriptLine) (s : State) (hs : s.SEQ = .ready) : runLine line s = driveLine line s := by
  simp only [runLine, runToReady_ready busyBound { s with PORT := [] } hs]
  rfl

/-- Whatever the state, a line is driven to a ready engine only (R67). -/
theorem runLine_waits (line : ScriptLine) (s t : State) (h : runLine line s = .next t) :
    ∃ ready, runToReady busyBound { s with PORT := [] } = .next ready ∧ ready.SEQ = .ready ∧ driveLine line ready = .next t := by
  unfold runLine at h
  split at h
  · rename_i ready hr
    exact ⟨ready, hr, runToReady_answers_ready _ _ _ rfl (stepsToReady_le _) hr, h⟩
  · cases h
  · cases h

/-- A command line without Reset, from a ready state, is exec of its instruction and then the run to ready. -/
theorem runLine_command (line : ScriptLine) (word : BitVec 10) (s t : State) (hl : ScriptLine.input line = ⟨false, true, word⟩)
    (hs : s.SEQ = .ready) (ht : exec (decodeCmd word) { s with PORT := [] } = .next t) :
    runLine line s = runToReady busyBound t := by
  have hstep : step { s with PORT := [⟨false, true, word⟩] } = .next t :=
    (step_some _ (.cmd word) rfl (by simp [State.selected, hs, State.input])).trans ht
  simp [runLine_of_ready line s hs, driveLine, hl, hstep]

end Sys2Proof.Machine
end

