-- ==== Sys2Proof/Tests/Slice0.lean ====
section
/-! SUPPORT. The model's own tests: syntax checks, words written out from the spec's encodings, one step of each instruction
against the spec's vectors (spec/95_test_vectors.md), and, for each statement with hypotheses, a concrete state that meets
them. -/

namespace Sys2Proof.Tests

open Sys2Proof Sys2Proof.Machine

/-! ### Small states -/

/-- BUF with zero bytes in its first n places. -/
def zeroBytes (n : Nat) : Memory := (List.range n).map fun k => (k, 0)

/-- BUF holding the given bytes from index 0. -/
def bytesFrom (l : List Byte) : Memory := l.zipIdx.map fun p => (p.2, p.1)

/-- A ready engine that has absorbed n zero bytes of its first block. -/
def absorbing (n : Nat) : State :=
  { State.reset with PHASE := .absorb, CNT := BitVec.ofNat 6 n, LEN := BitVec.ofNat 64 (8 * n), BUF := zeroBytes n }

/-- A finished computation. -/
def finished : State := { State.reset with PHASE := .done, A := 0x98500190, B := 0xb04fd23c, C := 0x7d3f96d6, D := 0x727fe128 }

/-- An engine at operation i of a zero block. -/
def operating (i : BitVec 6) : State :=
  { State.reset with PHASE := .absorb, SEQ := .op, T := i, BUF := zeroBytes 64 }

/-- An engine at the chaining step. -/
def chaining (fin last : Bool) : State :=
  { State.reset with PHASE := .absorb, SEQ := .chain, FIN := fin, LAST := last, BUF := zeroBytes 64 }

/-- An engine at a padding step with n bytes in BUF. -/
def padding (n : Nat) : State :=
  { State.reset with PHASE := .absorb, SEQ := .pad, FIN := true, CNT := BitVec.ofNat 6 n, BUF := zeroBytes n }

/-- The state with what the host drives next. -/
def driven (p : PortInput) (s : State) : State := { s with PORT := [p] }

/-- The host presents a command word. -/
def present (word : BitVec 10) (s : State) : State := driven ⟨false, true, word⟩ s

/-- The outcome is a next state with a property. -/
def nextWith (o : Outcome) (p : State → Bool) : Bool :=
  match o with
  | .next t => p t
  | .fault _ => false
  | .refused _ => false

/-- The outcome is a next state. -/
def isNext (o : Outcome) : Bool := nextWith o fun _ => true

/-! ### Syntax -/

theorem test_wellFormed_refuses_number_256 : (ScriptLine.update (.number 256)).wellFormed = false := by decide

theorem test_wellFormed_refuses_reserved_number : (ScriptLine.rsvd (.number 300)).wellFormed = false := by decide

theorem test_wellFormed_refuses_quoted_non_ascii : (ScriptLine.update (.quoted 'é')).wellFormed = false := by decide

theorem test_wellFormed_refuses_script : scriptWellFormed [.init, .update (.number 256), .final] = false := by decide

theorem test_wellFormed_accepts_script : scriptWellFormed [.init, .update (.quoted 'h'), .rsvd (.number 0x55), .reset] = true := by
  decide

theorem test_canonical_refuses_init_data : (Instr.init 0x01).canonical = false := by decide

theorem test_canonical_refuses_final_data : (Instr.final 0xff).canonical = false := by decide

theorem test_canonical_refuses_reserved_data : (Instr.rsvd 0x55).canonical = false := by decide

/-- The script words of R67. -/
theorem test_script_words :
    ScriptLine.init.word = some 0x100 ∧ (ScriptLine.update (.number 0x68)).word = some 0x268 ∧
    (ScriptLine.update (.quoted 'h')).word = some 0x268 ∧ ScriptLine.final.word = some 0x300 ∧
    (ScriptLine.rsvd (.number 0x55)).word = some 0x055 ∧ ScriptLine.reset.word = none ∧
    (ScriptLine.update (.number 256)).word = none := by decide

/-! ### Decoding, by words written out from R60, R61 and R65 -/

theorem test_decode_commands :
    decode (.cmd 0b0000000000#10) = .rsvd 0x00 ∧ decode (.cmd 0b0011111111#10) = .rsvd 0xff ∧
    decode (.cmd 0b0100000000#10) = .init 0x00 ∧ decode (.cmd 0b0111111111#10) = .init 0xff ∧
    decode (.cmd 0b1000000000#10) = .update 0x00 ∧ decode (.cmd 0b1001101000#10) = .update 0x68 ∧
    decode (.cmd 0b1100000000#10) = .final 0x00 ∧ decode (.cmd 0b1111111111#10) = .final 0xff := by decide

theorem test_decode_ff :
    decode (.step 0b000000#6) = .ff0 ∧ decode (.step 0b000001#6) = .ff1 ∧
    decode (.step 0b000010#6) = .ff2 ∧ decode (.step 0b000011#6) = .ff3 ∧
    decode (.step 0b000100#6) = .ff4 ∧ decode (.step 0b000101#6) = .ff5 ∧
    decode (.step 0b000110#6) = .ff6 ∧ decode (.step 0b000111#6) = .ff7 ∧
    decode (.step 0b001000#6) = .ff8 ∧ decode (.step 0b001001#6) = .ff9 ∧
    decode (.step 0b001010#6) = .ff10 ∧ decode (.step 0b001011#6) = .ff11 ∧
    decode (.step 0b001100#6) = .ff12 ∧ decode (.step 0b001101#6) = .ff13 ∧
    decode (.step 0b001110#6) = .ff14 ∧ decode (.step 0b001111#6) = .ff15 := by decide

theorem test_decode_gg :
    decode (.step 0b010000#6) = .gg16 ∧ decode (.step 0b010001#6) = .gg17 ∧
    decode (.step 0b010010#6) = .gg18 ∧ decode (.step 0b010011#6) = .gg19 ∧
    decode (.step 0b010100#6) = .gg20 ∧ decode (.step 0b010101#6) = .gg21 ∧
    decode (.step 0b010110#6) = .gg22 ∧ decode (.step 0b010111#6) = .gg23 ∧
    decode (.step 0b011000#6) = .gg24 ∧ decode (.step 0b011001#6) = .gg25 ∧
    decode (.step 0b011010#6) = .gg26 ∧ decode (.step 0b011011#6) = .gg27 ∧
    decode (.step 0b011100#6) = .gg28 ∧ decode (.step 0b011101#6) = .gg29 ∧
    decode (.step 0b011110#6) = .gg30 ∧ decode (.step 0b011111#6) = .gg31 := by decide

theorem test_decode_hh :
    decode (.step 0b100000#6) = .hh32 ∧ decode (.step 0b100001#6) = .hh33 ∧
    decode (.step 0b100010#6) = .hh34 ∧ decode (.step 0b100011#6) = .hh35 ∧
    decode (.step 0b100100#6) = .hh36 ∧ decode (.step 0b100101#6) = .hh37 ∧
    decode (.step 0b100110#6) = .hh38 ∧ decode (.step 0b100111#6) = .hh39 ∧
    decode (.step 0b101000#6) = .hh40 ∧ decode (.step 0b101001#6) = .hh41 ∧
    decode (.step 0b101010#6) = .hh42 ∧ decode (.step 0b101011#6) = .hh43 ∧
    decode (.step 0b101100#6) = .hh44 ∧ decode (.step 0b101101#6) = .hh45 ∧
    decode (.step 0b101110#6) = .hh46 ∧ decode (.step 0b101111#6) = .hh47 := by decide

theorem test_decode_ii :
    decode (.step 0b110000#6) = .ii48 ∧ decode (.step 0b110001#6) = .ii49 ∧
    decode (.step 0b110010#6) = .ii50 ∧ decode (.step 0b110011#6) = .ii51 ∧
    decode (.step 0b110100#6) = .ii52 ∧ decode (.step 0b110101#6) = .ii53 ∧
    decode (.step 0b110110#6) = .ii54 ∧ decode (.step 0b110111#6) = .ii55 ∧
    decode (.step 0b111000#6) = .ii56 ∧ decode (.step 0b111001#6) = .ii57 ∧
    decode (.step 0b111010#6) = .ii58 ∧ decode (.step 0b111011#6) = .ii59 ∧
    decode (.step 0b111100#6) = .ii60 ∧ decode (.step 0b111101#6) = .ii61 ∧
    decode (.step 0b111110#6) = .ii62 ∧ decode (.step 0b111111#6) = .ii63 := by decide

theorem test_decode_sequencer :
    decode .chain = .chain ∧ decode (.pad 56) = .padl ∧ decode (.pad 55) = .padz ∧ decode (.pad 0) = .padz ∧
    decode (.pad 63) = .padz := by decide

/-- Raw bits as the table numbers them, and each rejection by name. -/
theorem test_raw_bits :
    decodeTableWord 16 0x2ff = some (.update 0xff) ∧ decodeTableWord 8 0x3f = some .ii63 ∧
    decodeTableWord 2 2 = some .chain ∧ decodeTableWord 2 3 = some .padz := by decide

theorem test_raw_bits_rejected :
    selectorOfBits 16 0x400 = .error .commandTooWide ∧ selectorOfBits 8 0x40 = .error .indexTooWide ∧
    selectorOfBits 2 0 = .error .sequencerReady ∧ selectorOfBits 2 1 = .error .sequencerOp ∧
    selectorOfBits 2 4 = .error .sequencerTooWide ∧ selectorOfBits 17 0 = .error .noSuchFormat := ⟨rfl, rfl, rfl, rfl, rfl, rfl⟩

/-! ### The commands, from the table of 3.4 -/

theorem test_init_from_reset :
    nextWith (exec (.init 0) State.reset) (fun t =>
      t.status == 0x09 && t.quad == ⟨0x67452301, 0xefcdab89, 0x98badcfe, 0x10325476⟩ && t.LEN == 0 && t.CNT == 0) = true := by
  decide

theorem test_init_clears_error :
    nextWith (exec (.init 0) { State.reset with ERR := true, ERRCODE := .noComputation }) (fun t => t.status == 0x09) = true := by
  decide

theorem test_update_first_byte :
    nextWith (exec (.update 0x68) (absorbing 0)) (fun t =>
      t.BUF == [(0, 0x68)] && t.LEN == 8 && t.CNT == 1 && t.status == 0x09) = true := by decide

/-- The length wrap of 3.1. -/
theorem test_update_wraps_length :
    nextWith (exec (.update 0xff) { absorbing 63 with LEN := 0xfffffffffffffff8 }) (fun t =>
      t.LEN == 0 && t.CNT == 0 && Memory.lookup t.BUF 63 == some 0xff && t.SEQ == .op && t.T == 0 && t.status == 0x08) = true := by
  decide

theorem test_final_fills_block :
    nextWith (exec (.final 0) (absorbing 63)) (fun t =>
      Memory.lookup t.BUF 63 == some 0x80 && t.CNT == 0 && t.FIN && !t.LAST && t.SEQ == .op) = true := by decide

theorem test_final_after_final :
    nextWith (exec (.final 0) finished) (fun t => t.status == 0x57 && t.quad == finished.quad) = true := by decide

theorem test_rsvd_in_absorb :
    nextWith (exec (.rsvd 0x00) (absorbing 0)) (fun t => t.status == 0x8d && t.LEN == 0 && t.CNT == 0) = true := by decide

theorem test_rsvd_keeps_first_cause :
    nextWith (exec (.rsvd 0x55) { State.reset with ERR := true, ERRCODE := .noComputation }) (fun t => t.status == 0x65) = true := by
  decide

theorem test_update_after_final :
    nextWith (exec (.update 0x64) finished) (fun t => t.status == 0x37 && t.BUF == [] && t.LEN == 0) = true := by decide

theorem test_update_before_init :
    nextWith (exec (.update 0x61) State.reset) (fun t => t.status == 0x65) = true := by decide

/-! ### The operations -/

/-- The block of the empty message: 80, then 63 zero bytes. -/
def emptyBlock : Memory := bytesFrom (0x80 :: List.replicate 63 0)

/-- The block of "hello" (P2). -/
def helloBlock : Memory :=
  bytesFrom ([0x68, 0x65, 0x6c, 0x6c, 0x6f, 0x80] ++ List.replicate 50 0 ++ [0x28] ++ List.replicate 7 0)

/-- An engine at operation i of a block, with the given accumulators. -/
def operatingOn (m : Memory) (i : BitVec 6) (a b c d : Word) : State :=
  { State.reset with PHASE := .absorb, SEQ := .op, T := i, BUF := m, A := a, B := b, C := c, D := d }

/-- Operation after operation, one step each, over the values B takes in the spec's full trace of the empty message: with the
four latest in the roles A, D, C, B, operation i gives the next. -/
def traceHolds (i : Nat) : List Word → Bool
  | a :: d :: c :: b :: next :: rest =>
    nextWith (exec (decodeStep (BitVec.ofNat 6 i)) (operatingOn emptyBlock (BitVec.ofNat 6 i) a b c d))
      (fun t => t.quad == ⟨d, next, b, c⟩) &&
    traceHolds (i + 1) (d :: c :: b :: next :: rest)
  | _ => true

/-- The trace of 3.2, operations 0 to 15. -/
theorem test_trace_ff : traceHolds 0
  [0x67452301, 0x10325476, 0x98badcfe, 0xefcdab89,
   0xa5202774, 0xf59592dd, 0xe7f06b23, 0x1b163203,
   0x32033344, 0x2f35d494, 0xf5b158db, 0x9bc13ce9,
   0x3893b991, 0xfce4a312, 0xe1ef0576, 0x70768a29,
   0xf56c7cf1, 0x374943a7, 0x5aa53f75, 0xd6819c6a] = true := by decide

/-- The trace of 3.2, operations 16 to 31. -/
theorem test_trace_gg : traceHolds 16
  [0xf56c7cf1, 0x374943a7, 0x5aa53f75, 0xd6819c6a,
   0x1c7d7513, 0x7bd57a3a, 0xc095f13a, 0xbd782e17,
   0x3d1e3e6c, 0x68b7b3e3, 0xeb41643e, 0xe422531a,
   0x306ec122, 0xd28c77c2, 0xa3c663da, 0xa0572807,
   0x13707036, 0xae7813db, 0x1c31c384, 0xa2205f1f] = true := by decide

/-- The trace of 3.2, operations 32 to 47. -/
theorem test_trace_hh : traceHolds 32
  [0x13707036, 0xae7813db, 0x1c31c384, 0xa2205f1f,
   0xdf63eaa1, 0xc3689f5b, 0x12f3e755, 0x004b6669,
   0x5f7a9b2e, 0xabc34e16, 0x91ca4cb7, 0xc5dc8c15,
   0x4497169d, 0x76fd93d4, 0xfd95f243, 0x0fe32453,
   0x3f55edfd, 0x22a31f54, 0x68d84ea2, 0xca7d2dbd] = true := by decide

/-- The trace of 3.2, operations 48 to 63. -/
theorem test_trace_ii : traceHolds 48
  [0x3f55edfd, 0x22a31f54, 0x68d84ea2, 0xca7d2dbd,
   0x93aa2577, 0x1688dc85, 0xcd85b8cb, 0x561e0689,
   0x5625a114, 0x3450f42b, 0x392ad0d0, 0x1e77fa61,
   0x474a9c8c, 0xdfce00bc, 0x36594b14, 0x30130182,
   0x7246fad3, 0x6e10a476, 0xff4ea3eb, 0x14e45506] = true := by decide

/-- R103, the example. -/
theorem test_ff0_hello :
    nextWith (exec .ff0 (operatingOn helloBlock 0 0x67452301 0xefcdab89 0x98badcfe 0x10325476)) (fun t =>
      t.quad == ⟨0x10325476, 0xdb529b2a, 0xefcdab89, 0x98badcfe⟩ && t.T == 1 && t.SEQ == .op) = true := by decide

/-- R104, the example. -/
theorem test_gg16_hello :
    nextWith (exec .gg16 (operatingOn helloBlock 16 0x450959ef 0xb693b95c 0xd8f68bbf 0xff9580ae)) (fun t =>
      t.quad == ⟨0xff9580ae, 0xfa05151a, 0xb693b95c, 0xd8f68bbf⟩ && t.T == 17 && t.SEQ == .op) = true := by decide

/-- R105, the example. -/
theorem test_hh32_hello :
    nextWith (exec .hh32 (operatingOn helloBlock 32 0xf4468fac 0x1e58bdd5 0x9978d034 0x5ad7c223)) (fun t =>
      t.quad == ⟨0x5ad7c223, 0x41e048e2, 0x1e58bdd5, 0x9978d034⟩ && t.T == 33 && t.SEQ == .op) = true := by decide

/-- R106, the example. -/
theorem test_ii48_hello :
    nextWith (exec .ii48 (operatingOn helloBlock 48 0x1cf97337 0xcd289f17 0x45677c62 0xb9fc4957)) (fun t =>
      t.quad == ⟨0xb9fc4957, 0xc4184f18, 0xcd289f17, 0x45677c62⟩ && t.T == 49 && t.SEQ == .op) = true := by decide

/-- 3.2, the row of operation 63. -/
theorem test_ii63_hello :
    nextWith (exec .ii63 (operatingOn helloBlock 63 0x6560b9b9 0xf8e294bb 0x8292c29a 0xc2fb1e5c)) (fun t =>
      t.quad == ⟨0xc2fb1e5c, 0x865ca033, 0xf8e294bb, 0x8292c29a⟩ && t.T == 63 && t.SEQ == .chain) = true := by decide

/-- An operation over a byte nothing has written faults (U1). -/
theorem test_ff1_unwritten : exec .ff1 { operating 1 with BUF := zeroBytes 6 } = .fault (.bufUnwritten 6) := rfl

/-- R109, the example of the empty message. -/
theorem test_chain_empty_message :
    nextWith (exec .chain { chaining true true with
      A := 0x7246fad3, B := 0x14e45506, C := 0xff4ea3eb, D := 0x6e10a476,
      AA := 0x67452301, BB := 0xefcdab89, CC := 0x98badcfe, DD := 0x10325476 }) (fun t =>
      t.quad == ⟨0xd98c1dd4, 0x04b2008f, 0x980980e9, 0x7e42f8ec⟩ && t.status == 0x13 && !t.FIN && !t.LAST &&
      t.readDigest.toOption == some [0xd4, 0x1d, 0x8c, 0xd9, 0x8f, 0x00, 0xb2, 0x04, 0xe9, 0x80, 0x09, 0x98, 0xec, 0xf8, 0x42, 0x7e]) =
      true := by decide

/-- A block that FINAL filled without the length field goes on padding (P4). -/
theorem test_chain_resumes_padding :
    nextWith (exec .chain (chaining true false)) (fun t => t.SEQ == .pad && t.FIN && t.PHASE == .absorb) = true := by decide

theorem test_padz_fills_block :
    nextWith (exec .padz (padding 63)) (fun t =>
      Memory.lookup t.BUF 63 == some 0 && t.CNT == 0 && t.SEQ == .op && !t.LAST && t.LEN == 0) = true := by decide

theorem test_padz_reaches_length_field :
    nextWith (exec .padz (padding 55)) (fun t => Memory.lookup t.BUF 55 == some 0 && t.CNT == 56 && t.SEQ == .pad) = true := by
  decide

/-- R86, the example: LEN = 0x28. -/
theorem test_padl_hello :
    nextWith (exec .padl { padding 56 with LEN := 0x28 }) (fun t =>
      (M t.BUF 14).toOption == some 0x00000028 && (M t.BUF 15).toOption == some 0 && t.CNT == 0 && t.LAST && t.SEQ == .op &&
      t.LEN == 0x28) = true := by decide

/-- The byte order of the length field, all eight bytes different. -/
theorem test_padl_byte_order :
    nextWith (exec .padl { padding 56 with LEN := 0x0807060504030201 }) (fun t =>
      t.BUF.drop 56 == [(56, 1), (57, 2), (58, 3), (59, 4), (60, 5), (61, 6), (62, 7), (63, 8)]) = true := by decide

/-! ### Functions, from 3.2 and 3.3 -/

theorem test_nonlinear_functions :
    F 0x0f0f0f0f 0x33333333 0x55555555 = 0x53535353 ∧ G 0x0f0f0f0f 0x33333333 0x55555555 = 0x27272727 ∧
    H 0x0f0f0f0f 0x33333333 0x55555555 = 0x69696969 ∧ I 0x0f0f0f0f 0x33333333 0x55555555 = 0x9c9c9c9c := by decide

theorem test_rotations :
    rotl32 0x00000001 7 = 0x00000080 ∧ rotl32 0x80000000 4 = 0x00000008 ∧ rotl32 0xd76aa4f7 7 = 0xb5527beb ∧
    rotl32 0x12345678 23 = 0x3c091a2b ∧ rotl32 0xdeadbeef 16 = 0xbeefdead := by decide

theorem test_word_view : (M helloBlock 0).toOption = some 0x6c6c6568 ∧ (M helloBlock 1).toOption = some 0x0000806f := by decide

theorem test_pad_abc :
    pad [0x61, 0x62, 0x63] =
      [0x61, 0x62, 0x63, 0x80] ++ List.replicate 52 0x00 ++ [0x18, 0x00, 0x00, 0x00, 0x00, 0x00, 0x00, 0x00] := by decide

theorem test_padding_counts :
    [0, 1, 55, 56, 57, 63, 64, 119, 120].map padZeros = [55, 54, 0, 63, 62, 56, 55, 0, 63] ∧
    [0, 55, 56, 57, 63, 64, 119, 120].map numBlocks = [1, 1, 2, 2, 2, 2, 2, 3] := by decide

theorem test_digest_bytes :
    digestBytes ⟨0x00000001, 0x00000000, 0x00000000, 0x80000000⟩ = [1, 0, 0, 0, 0, 0, 0, 0, 0, 0, 0, 0, 0, 0, 0, 0x80] := by
  decide

theorem test_digest_port :
    State.readDigestPort { finished with A := 0xd98c1dd4, B := 0x04b2008f, C := 0x980980e9, D := 0x7e42f8ec } =
      .ok 0x7e42f8ec980980e904b2008fd98c1dd4 := rfl

theorem test_to_hex : toHex [0xd4, 0x1d, 0x0f] = ['d', '4', '1', 'd', '0', 'f'] ∧ fromHex ['d', '4', '1', 'd'] = some [0xd4, 0x1d] ∧
    fromHex ['D', '4'] = none := by decide

/-! ### The step -/

/-- "busy (SEQ OP, T = 17), any command presented: not accepted" (3.4). -/
theorem test_busy_ignores_command :
    nextWith (step (present 0x100 (operating 17))) (fun t => t.T == 18 && t.PHASE == .absorb && t.PORT == []) = true := by decide

/-- "busy (SEQ OP, T = 17), RESET" (3.4); Reset wins over the command presented with it (R190). -/
theorem test_reset_while_busy :
    nextWith (step (driven ⟨true, true, 0x100⟩ (operating 17))) (fun t =>
      t.PHASE == .idle && t.SEQ == .ready && !t.ERR && t.BUF == []) = true := by decide

/-- "A script line is executed only when the engine is ready" (R67): from the chaining step the engine first gets ready, and the byte
is not lost. -/
theorem test_line_waits_for_ready :
    nextWith (runLine (.update (.number 0x61)) (chaining false false)) (fun t =>
      t.SEQ == .ready && t.CNT == 1 && t.LEN == 8 && Memory.lookup t.BUF 0 == some 0x61) = true := by decide

theorem test_ready_waits : nextWith (step (absorbing 3)) (fun t => t.CNT == 3 && t.SEQ == .ready) = true := by decide

end Sys2Proof.Tests
end

