-- ==== Sys2Proof/Tests/Witnesses.lean ====
section
/-! SUPPORT. For each statement with hypotheses, a concrete state and operands that meet them together, for each of its clauses at
the edges of its range. -/

namespace Sys2Proof.Tests

open Sys2Proof Sys2Proof.Machine

/-- What `toOption` shows of a read, in the form the statements have it. -/
theorem ok_of_toOption {ε α : Type} {e : Except ε α} {v : α} (h : e.toOption = some v) : e = .ok v := by
  cases e with
  | ok w => simpa [Except.toOption] using h
  | error err => simp [Except.toOption] at h

/-! ### Encoding -/

/-- The four masks of CommandWordsDecodeByOpField, each at both ends of its words, and the two raw ranges where they meet. -/
theorem witness_CommandWordsDecodeByOpField :
    (0x000#10 &&& 0x300 = 0x000 ∧ 0x0ff#10 &&& 0x300 = 0x000) ∧ (0x100#10 &&& 0x300 = 0x100 ∧ 0x1ff#10 &&& 0x300 = 0x100) ∧
    (0x200#10 &&& 0x300 = 0x200 ∧ 0x2ff#10 &&& 0x300 = 0x200) ∧ (0x300#10 &&& 0x300 = 0x300 ∧ 0x3ff#10 &&& 0x300 = 0x300) ∧
    decodeTableWord 16 1023 = some (.final 0xff) ∧ decodeTableWord 16 1024 = none := by decide

theorem witness_SequencerSelectsScheduledOperation :
    ⟨.ff0, 0, 0, 7, 0xd76aa478⟩ ∈ schedule ∧ ⟨.ii63, 63, 9, 21, 0xeb86d391⟩ ∈ schedule := by decide

/-! ### Reset and the step -/

theorem witness_ResetEventAbandonsEverything :
    (driven ⟨true, true, 0x100⟩ (operating 17)).input.reset = true ∧ (driven ⟨true, false, 0⟩ finished).input.reset = true ∧
    (driven ⟨true, true, 0x100⟩ (operating 17)).PORT.tail = (driven ⟨true, false, 0⟩ finished).PORT.tail ∧
    (driven ⟨true, true, 0x100⟩ (operating 17)).DRAWS = (driven ⟨true, false, 0⟩ finished).DRAWS ∧
    (driven ⟨true, true, 0x100⟩ (operating 17)).EVERERR = (driven ⟨true, false, 0⟩ finished).EVERERR := by decide

theorem witness_StepRunsSelectedInstruction :
    ((present 0x200 (absorbing 0)).input.reset = false ∧ (present 0x200 (absorbing 0)).SEQ = .ready ∧
      (present 0x200 (absorbing 0)).input.cmdValid = true ∧ (present 0x200 (absorbing 0)).selected = some (.cmd 0x200)) ∧
    ((absorbing 0).input.reset = false ∧ (absorbing 0).SEQ = .ready ∧ (absorbing 0).input.cmdValid = false) ∧
    ((operating 63).input.reset = false ∧ (operating 63).SEQ = .op) ∧
    ((chaining true true).input.reset = false ∧ (chaining true true).SEQ = .chain) ∧
    ((padding 56).input.reset = false ∧ (padding 56).SEQ = .pad) := by decide

theorem witness_CommandsAcceptedExactlyWhenReady :
    (absorbing 63).SEQ = .ready ∧ (operating 0).SEQ ≠ .ready ∧ (chaining false false).SEQ ≠ .ready ∧
    (padding 57).SEQ ≠ .ready ∧ isNext (step (present 0x100 (operating 0))) = true := by decide

theorem witness_MicroStepDispatch :
    ((operating 0).input.reset = false ∧ (operating 0).SEQ = .op ∧ (operating 0).T = 0 ∧ isNext (step (operating 0)) = true) ∧
    ((operating 63).SEQ = .op ∧ (operating 63).T = 63 ∧ isNext (step (operating 63)) = true) ∧
    ((chaining true true).SEQ = .chain ∧ isNext (step (chaining true true)) = true) ∧
    ((padding 56).SEQ = .pad ∧ (padding 56).CNT = 56 ∧ isNext (step (padding 56)) = true) ∧
    ((padding 55).SEQ = .pad ∧ (padding 55).CNT ≠ 56) ∧ ((padding 57).SEQ = .pad ∧ (padding 57).CNT ≠ 56) := by decide

theorem witness_InstructionNotEnabledChangesNothing :
    (operating 0).SEQ ≠ .ready ∧ (absorbing 0).SEQ ≠ .op ∧ ((operating 1).SEQ = .op ∧ (operating 1).T ≠ 0) ∧
    (absorbing 0).SEQ ≠ .chain ∧ (absorbing 0).SEQ ≠ .pad ∧ ((padding 56).SEQ = .pad ∧ (padding 56).CNT = 56) ∧
    ((padding 55).SEQ = .pad ∧ (padding 55).CNT ≠ 56) := by decide

/-- Every row of the table with bits of its own runs as the first instruction after reset. -/
theorem witness_PlacedWordRunsNext :
    isNext (step (State.reset.withFetchWord 16 0x000)) = true ∧ isNext (step (State.reset.withFetchWord 16 0x3ff)) = true ∧
    isNext (step (State.reset.withFetchWord 8 0)) = true ∧ isNext (step (State.reset.withFetchWord 8 63)) = true := by decide

/-! ### Commands and usage errors -/

theorem witness_InitStartsComputation : State.reset.SEQ = .ready ∧ finished.SEQ = .ready ∧ (absorbing 5).SEQ = .ready := by decide

/-- UPDATE and FINAL: the first place, the last place before the block is full, the place that fills it, DONE and IDLE. -/
theorem witness_UpdateAbsorbsOneByte :
    ((absorbing 0).SEQ = .ready ∧ (absorbing 0).PHASE = .absorb ∧ (absorbing 0).CNT ≠ 63) ∧
    ((absorbing 62).SEQ = .ready ∧ (absorbing 62).PHASE = .absorb ∧ (absorbing 62).CNT ≠ 63) ∧
    ((absorbing 63).SEQ = .ready ∧ (absorbing 63).PHASE = .absorb ∧ (absorbing 63).CNT = 63) ∧
    (finished.SEQ = .ready ∧ finished.PHASE = .done) ∧ (State.reset.SEQ = .ready ∧ State.reset.PHASE = .idle) := by decide

theorem witness_FinalStartsPadding :
    ((absorbing 0).SEQ = .ready ∧ (absorbing 0).PHASE = .absorb ∧ (absorbing 0).CNT ≠ 63) ∧
    ((absorbing 62).SEQ = .ready ∧ (absorbing 62).PHASE = .absorb ∧ (absorbing 62).CNT ≠ 63) ∧
    ((absorbing 63).SEQ = .ready ∧ (absorbing 63).PHASE = .absorb ∧ (absorbing 63).CNT = 63) ∧
    (finished.SEQ = .ready ∧ finished.PHASE = .done) ∧ (State.reset.SEQ = .ready ∧ State.reset.PHASE = .idle) := by decide

theorem witness_ReservedCommandRaisesUsageError : (absorbing 0).SEQ = .ready ∧ State.reset.SEQ = .ready := by decide

/-- Each row of the table of causes, with the flag clear and set. -/
theorem witness_UsageErrorRecordsFirstCause :
    Safety.causeOf (.update 0x64) finished.PHASE = some .updateAfterFinal ∧
    Safety.causeOf (.final 0) finished.PHASE = some .finalAfterFinal ∧
    Safety.causeOf (.update 0x61) State.reset.PHASE = some .noComputation ∧
    Safety.causeOf (.final 0) State.reset.PHASE = some .noComputation ∧
    Safety.causeOf (.rsvd 0) State.reset.PHASE = some .reservedCommand ∧
    Safety.causeOf (.rsvd 0xff) (absorbing 1).PHASE = some .reservedCommand ∧
    finished.SEQ = .ready ∧ State.reset.SEQ = .ready ∧ State.reset.ERR = false ∧
    { finished with ERR := true, ERRCODE := .updateAfterFinal }.ERR = true := by decide

theorem witness_UsageErrorsOnlyFromRejectedCommands :
    (present 0x261 State.reset).ERR = false ∧
    nextWith (step (present 0x261 State.reset)) (fun t => t.ERR && t.ERRCODE == .noComputation) = true := by decide

/-- A state with ERR set. -/
def faulty (s : State) : State := { s with ERR := true, ERRCODE := .noComputation, EVERERR := true }

/-- The three clauses: a command that is not INIT, INIT, and Reset. -/
theorem witness_ErrorFlagClearedOnlyByInitAndReset :
    ((present 0x300 (faulty State.reset)).ERR = true ∧ (present 0x300 (faulty State.reset)).input.reset = false ∧
      Safety.accepted (present 0x300 (faulty State.reset)) = some (.final 0) ∧
      isNext (step (present 0x300 (faulty State.reset))) = true) ∧
    (Safety.accepted (present 0x100 (faulty State.reset)) = some (.init 0) ∧
      isNext (step (present 0x100 (faulty State.reset))) = true) ∧
    ((driven ⟨true, false, 0⟩ (faulty State.reset)).input.reset = true ∧
      isNext (step (driven ⟨true, false, 0⟩ (faulty State.reset))) = true) := by decide

theorem witness_ErrorFlagsInfluenceNothingElse :
    Safety.eraseErrors (present 0x300 (faulty State.reset)) = Safety.eraseErrors (present 0x300 State.reset) := by decide

/-! ### Operations, chaining, padding -/

/-- The first and the last row of each group, with its message word readable. -/
theorem witness_operations :
    (⟨.ff0, 0, 0, 7, 0xd76aa478⟩ ∈ ffSchedule ∧ ⟨.ff15, 15, 15, 22, 0x49b40821⟩ ∈ ffSchedule) ∧
    (⟨.gg16, 16, 1, 5, 0xf61e2562⟩ ∈ ggSchedule ∧ ⟨.gg31, 31, 12, 20, 0x8d2a4c8a⟩ ∈ ggSchedule) ∧
    (⟨.hh32, 32, 5, 4, 0xfffa3942⟩ ∈ hhSchedule ∧ ⟨.hh47, 47, 2, 23, 0xc4ac5665⟩ ∈ hhSchedule) ∧
    (⟨.ii48, 48, 0, 6, 0xf4292244⟩ ∈ iiSchedule ∧ ⟨.ii63, 63, 9, 21, 0xeb86d391⟩ ∈ iiSchedule) ∧
    (∀ row ∈ schedule, (operating row.i).SEQ = .op ∧ (operating row.i).T = row.i) ∧
    (∀ j : BitVec 4, (M (zeroBytes 64) j).toOption = some 0) := by decide

/-- The same with the value of M as the statements have it. -/
theorem witness_operations_word : M (operating 0).BUF 0 = .ok 0 ∧ M (operating 63).BUF 9 = .ok 0 := ⟨rfl, rfl⟩

theorem witness_OperationSequencingAndFrame :
    isNext (exec .ff0 (operating 0)) = true ∧ isNext (exec .ii62 (operating 62)) = true ∧
    isNext (exec .ii63 (operating 63)) = true ∧ isNext (exec .ff0 State.reset) = true := by decide

theorem witness_OperationFaultsOnlyOnUnwrittenByte :
    (operating 0).SEQ = .op ∧ (operating 0).T = 0 ∧ { operating 0 with BUF := zeroBytes 3 }.SEQ = .op ∧
    Memory.lookup (zeroBytes 3) 3 = none ∧ isNext (exec .ff0 { operating 0 with BUF := zeroBytes 3 }) = false := by decide

theorem witness_ChainAddsSavedCopy :
    ((chaining false false).SEQ = .chain ∧ (chaining false false).FIN = false) ∧
    ((chaining true true).FIN = true ∧ (chaining true true).LAST = true) ∧
    ((chaining true false).FIN = true ∧ (chaining true false).LAST = false) := by decide

theorem witness_PadzAppendsZeroByte :
    ((padding 63).SEQ = .pad ∧ (padding 63).CNT ≠ 56 ∧ (padding 63).CNT = 63) ∧
    ((padding 62).SEQ = .pad ∧ (padding 62).CNT ≠ 56 ∧ (padding 62).CNT ≠ 63) ∧
    ((padding 0).CNT ≠ 56 ∧ (padding 0).CNT ≠ 63) ∧ ((padding 55).CNT ≠ 56 ∧ (padding 55).CNT ≠ 63) ∧
    ((padding 57).CNT ≠ 56 ∧ (padding 57).CNT ≠ 63) := by decide

theorem witness_PadlAppendsLengthField : (padding 56).SEQ = .pad ∧ (padding 56).CNT = 56 := by decide

/-! ### Frames and rules about the whole machine -/

theorem witness_ByteStoringInstructionsFrame :
    isNext (exec (.update 1) (absorbing 62)) = true ∧ isNext (exec (.update 1) (absorbing 63)) = true ∧
    isNext (exec (.update 1) finished) = true ∧ isNext (exec (.final 0) (absorbing 63)) = true ∧
    isNext (exec .padz (padding 62)) = true ∧ isNext (exec .padz (padding 63)) = true ∧
    (absorbing 62).CNT ≠ 63 ∧ (0 : BitVec 6) ≠ (absorbing 62).CNT ∧ (absorbing 62).PHASE = .absorb := by decide

theorem witness_LengthFieldFrame :
    isNext (exec .padl (padding 56)) = true ∧ (55 : BitVec 6).toNat < 56 ∧ (0 : BitVec 6).toNat < 56 := by decide

theorem witness_NonStoringInstructionsFrame :
    isNext (exec (.init 0) (absorbing 5)) = true ∧ isNext (exec (.rsvd 0) (absorbing 5)) = true ∧
    isNext (exec .chain (chaining true false)) = true := by decide

theorem witness_LengthCountsMessageBits :
    ((present 0x100 (absorbing 5)).input.reset = false ∧ isNext (step (present 0x100 (absorbing 5))) = true) ∧
    isNext (step (present 0x2ff (absorbing 63))) = true ∧ isNext (step (present 0x2ff finished)) = true ∧
    isNext (step (padding 56)) = true := by decide

/-- A step that changes A..D, one that changes AA..DD, one that starts a block. -/
theorem witness_AccumulatorWriters :
    (nextWith (step (operating 0)) fun t => t.quad != (operating 0).quad) = true ∧
    (nextWith (step (present 0x2ff { absorbing 63 with A := 1 })) fun t =>
      t.savedQuad != { absorbing 63 with A := 1 }.savedQuad && t.SEQ == .op) = true ∧
    (present 0x2ff { absorbing 63 with A := 1 }).SEQ ≠ .op := by decide

/-- The four ways a byte of BUF changes. -/
theorem witness_BufferWriters :
    (nextWith (step (present 0x2ff (absorbing 63))) fun t => Memory.lookup t.BUF 63 != Memory.lookup (absorbing 63).BUF 63) = true ∧
    (nextWith (step (present 0x300 (absorbing 0))) fun t => Memory.lookup t.BUF 0 != Memory.lookup (absorbing 0).BUF 0) = true ∧
    (nextWith (step (padding 57)) fun t => Memory.lookup t.BUF 57 != Memory.lookup (padding 57).BUF 57) = true ∧
    (nextWith (step (padding 56)) fun t => Memory.lookup t.BUF 63 != Memory.lookup (padding 56).BUF 63) = true := by decide

theorem witness_ControlFlowFollowsTable :
    isNext (step (present 0x2ff (absorbing 63))) = true ∧ isNext (step (operating 62)) = true ∧
    ((operating 62).SEQ = .op ∧ (operating 62).T ≠ 63) ∧ ((padding 56).SEQ = .pad ∧ (padding 56).CNT = 56) ∧
    Safety.legalPair (padding 56).PHASE (padding 56).SEQ = true ∧ (absorbing 63).SEQ ≠ .op := by decide

theorem witness_DigestValidOnlyAfterLastBlock :
    (nextWith (step (chaining true true)) fun t => t.PHASE == .done) = true ∧ (chaining true true).PHASE ≠ .done ∧
    finished.PHASE = .done ∧ (absorbing 0).PHASE ≠ .done := by decide

theorem witness_DigestStableUntilInitOrReset :
    (present 0x264 finished).PHASE = .done ∧ (present 0x264 finished).SEQ = .ready ∧
    (present 0x264 finished).input.reset = false ∧ Safety.accepted (present 0x264 finished) = some (.update 0x64) ∧
    isNext (step (present 0x264 finished)) = true := by decide

/-- `some (.update _)` accepted is not INIT accepted, so the two theorems above meet the hypothesis that INIT is not accepted. -/
theorem witness_not_accepting_init (s : State) (data : Byte) (h : Safety.accepted s = some (.update data)) :
    ¬ Safety.AcceptsInit s := by
  rintro ⟨other, ho⟩; rw [h] at ho; cases ho

/-- INIT presented to a ready engine is accepted. -/
theorem witness_accepting_init : Safety.AcceptsInit (present 0x100 (faulty State.reset)) := ⟨0, by decide⟩

theorem witness_not_accepting_init_final (s : State) (data : Byte) (h : Safety.accepted s = some (.final data)) :
    ¬ Safety.AcceptsInit s := by
  rintro ⟨other, ho⟩; rw [h] at ho; cases ho

theorem witness_StepKeepsBufferCanonical :
    (absorbing 63).BUF.wf = true ∧ isNext (step (present 0x2ff (absorbing 63))) = true ∧ (padding 56).BUF.wf = true ∧
    isNext (step (padding 56)) = true := by decide

/-- The invariant at the edges of the fill counter in a ready state. -/
theorem witness_inv_absorbing :
    Safety.Inv (absorbing 0) ∧ Safety.Inv (absorbing 55) ∧ Safety.Inv (absorbing 56) ∧ Safety.Inv (absorbing 63) := by
  refine ⟨?_, ?_, ?_, ?_⟩ <;> constructor <;> decide

/-- The invariant at the busy states. -/
theorem witness_inv_busy :
    Safety.Inv (operating 0) ∧ Safety.Inv (operating 63) ∧ Safety.Inv (chaining true true) ∧ Safety.Inv (chaining true false) ∧
    Safety.Inv (padding 56) ∧ Safety.Inv (padding 57) ∧ Safety.Inv finished := by
  refine ⟨?_, ?_, ?_, ?_, ?_, ?_, ?_⟩ <;> constructor <;> decide

theorem witness_EveryStepKeepsErrorInvariant :
    Safety.ErrInv (faulty State.reset) ∧ (faulty State.reset).EVERERR = true ∧ isNext (step (present 0x261 (faulty State.reset))) = true := by
  refine ⟨?_, rfl, by decide⟩
  constructor <;> decide

theorem witness_StatusFields : Safety.Inv finished ∧ finished.status.getLsbD 1 = true :=
  ⟨witness_inv_busy.2.2.2.2.2.2, by decide⟩

/-! ### Compression, memory, digest -/

theorem witness_RotationMovesBits : (0 < 1 ∧ 1 < 32) ∧ (0 < 31 ∧ 31 < 32) := by decide

/-- The state a block start leaves, over a zero block, with a command the host presents meanwhile. -/
theorem witness_SixtyFiveStepsCompressBlock :
    Safety.NoReset (present 0x100 (operating 0)) ∧ (present 0x100 (operating 0)).SEQ = .op ∧
    (present 0x100 (operating 0)).T = 0 ∧ (present 0x100 (operating 0)).savedQuad = (present 0x100 (operating 0)).quad ∧
    (List.replicate 64 (0 : Byte)).length = 64 ∧
    (∀ k : BitVec 6,
      bufRead (present 0x100 (operating 0)).BUF k = .ok ((List.replicate 64 (0 : Byte)).getD k.toNat 0)) := by
  refine ⟨by decide, rfl, rfl, rfl, rfl, fun k => ok_of_toOption ?_⟩
  revert k; decide

/-- The three forms of access that occur: one byte at the edges, eight at 56, four at the last word. -/
theorem witness_BufferAccessLittleEndian :
    (0 : BitVec 6).toNat + 1 ≤ 64 ∧ (63 : BitVec 6).toNat + 1 ≤ 64 ∧ (56 : BitVec 6).toNat + 8 ≤ 64 ∧
    (60 : BitVec 6).toNat + 4 ≤ 64 ∧ 0xffffffff < 2 ^ (8 * 4) ∧
    ((59 : BitVec 6).toNat < (60 : BitVec 6).toNat) ∧ ((56 : BitVec 6).toNat + 1 ≤ (57 : BitVec 6).toNat) ∧
    (∀ k < 8, bufRead (zeroBytes 64) (BitVec.ofNat 6 ((56 : BitVec 6).toNat + k)) = .ok ((fun _ => 0) k)) := by
  refine ⟨by decide, by decide, by decide, by decide, by decide, by decide, by decide, fun k hk => ok_of_toOption ?_⟩
  revert k; decide

/-- The first and the last word. -/
theorem witness_WordViewLittleEndian :
    (bufRead helloBlock (BitVec.ofNat 6 (4 * (0 : BitVec 4).toNat)) = .ok 0x68 ∧
      bufRead helloBlock (BitVec.ofNat 6 (4 * (0 : BitVec 4).toNat + 1)) = .ok 0x65 ∧
      bufRead helloBlock (BitVec.ofNat 6 (4 * (0 : BitVec 4).toNat + 2)) = .ok 0x6c ∧
      bufRead helloBlock (BitVec.ofNat 6 (4 * (0 : BitVec 4).toNat + 3)) = .ok 0x6c) ∧
    (bufRead helloBlock (BitVec.ofNat 6 (4 * (15 : BitVec 4).toNat)) = .ok 0 ∧
      bufRead helloBlock (BitVec.ofNat 6 (4 * (15 : BitVec 4).toNat + 1)) = .ok 0 ∧
      bufRead helloBlock (BitVec.ofNat 6 (4 * (15 : BitVec 4).toNat + 2)) = .ok 0 ∧
      bufRead helloBlock (BitVec.ofNat 6 (4 * (15 : BitVec 4).toNat + 3)) = .ok 0) := by
  refine ⟨⟨?_, ?_, ?_, ?_⟩, ?_, ?_, ?_, ?_⟩ <;> exact ok_of_toOption (by decide)

/-- The clause on zeros, at both ends of the zeros of the empty message, and the clause on the length in blocks. -/
theorem witness_PaddedStreamShape :
    ([] : List Byte).length < 1 ∧ 1 + 8 < (pad []).length ∧ ([] : List Byte).length < 55 ∧ 55 + 8 < (pad []).length ∧
    8 * ([] : List Byte).length + 65 ≤ 512 * 1 := by decide

theorem witness_HexFormRoundTrips : ([0xd4, 0x1d] : List Byte)[0]? = some 0xd4 ∧ ([0xd4, 0x1d] : List Byte)[1]? = some 0x1d := by
  decide

theorem witness_DigestByteOrder : finished.PHASE = .done := rfl

/-! ### Computations -/

/-- FINAL at the edges of its two counts: CNT = 0, 55, 56, 63. -/
theorem witness_FinalCompletesInExactSteps :
    (Safety.Inv (absorbing 0) ∧ Safety.Inv (absorbing 55) ∧ Safety.Inv (absorbing 56) ∧ Safety.Inv (absorbing 63)) ∧
    Safety.NoReset (absorbing 63) ∧ (absorbing 63).SEQ = .ready ∧ (absorbing 63).PHASE = .absorb ∧
    isNext (exec (.final 0) (absorbing 55)) = true ∧ isNext (exec (.final 0) (absorbing 56)) = true :=
  ⟨witness_inv_absorbing, by decide, rfl, rfl, by decide, by decide⟩

theorem witness_BusyEngineBecomesReady : Safety.Inv (padding 57) ∧ Safety.NoReset (padding 57) :=
  ⟨witness_inv_busy.2.2.2.2.2.1, by decide⟩

/-- AbsorbedMessageState, HashYieldsMd5Digest, StreamingEquivalence and InitForgetsEarlierComputations start from any ready
state. -/
theorem witness_ready_states :
    State.reset.SEQ = .ready ∧ (absorbing 63).SEQ = .ready ∧ finished.SEQ = .ready ∧
    ScriptLine.reset ∉ hashScript [0x61, 0x62, 0x63] := by decide

/-- The absorbed message of n zero bytes, at n mod 64 = 0, 55, 56 and 63. -/
theorem witness_FinalizationCompressesPaddedBlocks :
    ∀ n ∈ [0, 55, 56, 63],
      Safety.NoReset (absorbing n) ∧ (absorbing n).SEQ = .ready ∧ (absorbing n).PHASE = .absorb ∧
      (absorbing n).LEN = BitVec.ofNat 64 (8 * (List.replicate n (0 : Byte)).length) ∧
      (absorbing n).CNT = BitVec.ofNat 6 (List.replicate n (0 : Byte)).length ∧
      (∀ k < (List.replicate n (0 : Byte)).length % 64,
        bufRead (absorbing n).BUF (BitVec.ofNat 6 k) =
          .ok ((List.replicate n (0 : Byte)).getD
            ((List.replicate n (0 : Byte)).length - (List.replicate n (0 : Byte)).length % 64 + k) 0)) ∧
      isNext (exec (.final 0) (absorbing n)) = true := by
  intro n hn
  have shape : Safety.NoReset (absorbing n) ∧ (absorbing n).SEQ = .ready ∧ (absorbing n).PHASE = .absorb ∧
      isNext (exec (.final 0) (absorbing n)) = true := by revert n; decide
  have bytes : ∀ k < n % 64, (bufRead (absorbing n).BUF (BitVec.ofNat 6 k)).toOption = some 0 := by revert n; decide
  refine ⟨shape.1, shape.2.1, shape.2.2.1, ?_, ?_, ?_, shape.2.2.2⟩
  · rw [List.length_replicate]; rfl
  · rw [List.length_replicate]; rfl
  · intro k hk
    rw [List.length_replicate] at hk
    have zero : ∀ j, (List.replicate n (0 : Byte)).getD j 0 = 0 := by
      intro j
      rw [List.getD_eq_getElem?_getD, List.getElem?_replicate]
      split <;> rfl
    rw [zero]
    exact ok_of_toOption (bytes k hk)

/-- Two instances, both of which step, in either order. -/
theorem witness_InstancesAreIndependent :
    (0 : Nat) ≠ 1 ∧ [absorbing 0, operating 0][1]? = some (operating 0) ∧
    (∃ one, stepBank 0 [absorbing 0, operating 0] = .next one ∧ ∃ both, stepBank 1 one = .next both) ∧
    (∃ two, stepBank 1 [absorbing 0, operating 0] = .next two ∧ ∃ other, stepBank 0 two = .next other) := by
  refine ⟨by decide, rfl, ⟨_, rfl, _, rfl⟩, ⟨_, rfl, _, rfl⟩⟩

end Sys2Proof.Tests
end

section
/-! SUPPORT. The two effects of a command that depend on PHASE, by its cases; what a step accepts when no command is taken; and
LEN's count of whole bytes. -/

namespace Sys2Proof.Machine

/-! ### UPDATE and FINAL by PHASE -/

theorem updateEffect_absorb (data : Byte) (s : State) (h : s.PHASE = .absorb) :
    updateEffect data s = appendByte data { s with LEN := s.LEN + 8 } := by simp only [updateEffect, h]

theorem updateEffect_rejected (data : Byte) (s : State) (h : s.PHASE ≠ .absorb) :
    ∃ code, updateEffect data s = raiseUsageError code s := by
  unfold updateEffect
  split
  · contradiction
  · exact ⟨_, rfl⟩
  · exact ⟨_, rfl⟩

theorem finalEffect_absorb (s : State) (h : s.PHASE = .absorb) :
    finalEffect s = appendByte 0x80 { s with FIN := true, LAST := false, SEQ := .pad } := by simp only [finalEffect, h]

theorem finalEffect_rejected (s : State) (h : s.PHASE ≠ .absorb) :
    ∃ code, finalEffect s = raiseUsageError code s := by
  unfold finalEffect
  split
  · contradiction
  · exact ⟨_, rfl⟩
  · exact ⟨_, rfl⟩

/-! ### Steps that accept no command -/

theorem accepted_busy (s : State) (h : s.SEQ ≠ .ready) : Safety.accepted s = none := by simp [Safety.accepted, h]

theorem accepted_invalid (s : State) (h : s.input.cmdValid = false) : Safety.accepted s = none := by
  simp [Safety.accepted, h]

/-! ### LEN[8:3] and LEN[2:0] after one more byte (R15) -/

theorem length_byteCount_add (len : BitVec 64) : (len + 8).extractLsb' 3 6 = len.extractLsb' 3 6 + 1 := by
  apply BitVec.eq_of_toNat_eq
  simp [BitVec.toNat_add, Nat.shiftRight_eq_div_pow]
  omega

theorem length_bitOffset_add (len : BitVec 64) : (len + 8).extractLsb' 0 3 = len.extractLsb' 0 3 := by
  apply BitVec.eq_of_toNat_eq
  simp [BitVec.toNat_add]

end Sys2Proof.Machine
end

section
/-! SUPPORT. The invariant, effect by effect: each effect a step can have leads from the invariant to the invariant. -/

namespace Sys2Proof

open Sys2Proof.Machine

/-- The pairs of R136: a busy engine is absorbing, a ready one may be in any PHASE. -/
@[simp] theorem Safety.legalPair_iff (p : Phase) (q : Seq) : Safety.legalPair p q = true ↔ p = .absorb ∨ q = .ready := by
  cases p <;> cases q <;> decide

/-- Any two states that agree on the fields the invariant speaks of meet it together. -/
theorem Safety.Inv.of_fields_eq {s t : State} (h : Safety.Inv s) (hBUF : t.BUF = s.BUF) (hCNT : t.CNT = s.CNT)
    (hLEN : t.LEN = s.LEN) (hPHASE : t.PHASE = s.PHASE) (hSEQ : t.SEQ = s.SEQ) (hFIN : t.FIN = s.FIN)
    (hLAST : t.LAST = s.LAST) : Safety.Inv t := by
  cases s; cases t
  subst hBUF hCNT hLEN hPHASE hSEQ hFIN hLAST
  exact ⟨h.canonical, h.pair, h.readyFlags, h.padFlags, h.lastFin, h.fill, h.wholeBytes, h.doneCount, h.blockCount,
    h.filled, h.complete⟩

theorem Safety.Inv.shiftInput {s : State} (h : Safety.Inv s) : Safety.Inv s.shiftInput :=
  h.of_fields_eq rfl rfl rfl rfl rfl rfl rfl

theorem Safety.Inv.raiseUsageError {s : State} (h : Safety.Inv s) (code : Cause) :
    Safety.Inv (raiseUsageError code s) :=
  h.of_fields_eq rfl rfl rfl rfl rfl rfl rfl

/-- An idle engine with nothing written meets the invariant, whatever CNT, LEN and the other open registers hold (R27). -/
theorem Safety.inv_of_idle {s : State} (hBUF : s.BUF = []) (hPHASE : s.PHASE = .idle) (hSEQ : s.SEQ = .ready)
    (hFIN : s.FIN = false) (hLAST : s.LAST = false) : Safety.Inv s := by
  constructor <;> simp [*, Memory.wf, Memory.risingFrom]

theorem Safety.inv_resetEvent (s : State) : Safety.Inv (resetEvent s) := Safety.inv_of_idle rfl rfl rfl rfl rfl

theorem Safety.Inv.initEffect {s : State} (h : Safety.Inv s) (hs : s.SEQ = .ready) : Safety.Inv (initEffect s) := by
  constructor
  case filled => intro _ _ k hk; simp [Machine.initEffect] at hk
  all_goals simp [Machine.initEffect, hs, h.canonical]

/-! ### Filling a block -/

/-- One byte more has been written after a byte is stored right above the written ones. -/
theorem isSome_lookup_bufWrite (m : Memory) (i : BitVec 6) (v : Byte) (k : Nat)
    (h : ∀ k < i.toNat, (Memory.lookup m k).isSome = true) (hk : k ≤ i.toNat) :
    (Memory.lookup (bufWrite m i v) k).isSome = true := by
  rw [bufWrite, Memory.lookup_insert]
  split
  · rfl
  · exact h k (by omega)

/-- What holds where UPDATE, FINAL or PADZ appends its byte: the invariant of a block that is being filled, with LEN already
counting an UPDATE's byte and SEQ and FIN already set by FINAL (R132, R133, R85). -/
structure Safety.Filling (s : State) : Prop where
  canonical : s.BUF.wf = true
  phase : s.PHASE = .absorb
  seq : s.SEQ = if s.FIN then .pad else .ready
  notLast : s.LAST = false
  count : s.FIN = false → s.CNT + 1 = s.LEN.extractLsb' 3 6
  wholeBytes : s.LEN.extractLsb' 0 3 = 0
  written : Safety.writtenBelow s s.CNT.toNat

theorem Safety.Filling.appendByte {s : State} (h : Safety.Filling s) (v : Byte) : Safety.Inv (appendByte v s) := by
  have hwritten : ∀ k ≤ s.CNT.toNat, (Memory.lookup (Machine.appendByte v s).BUF k).isSome = true := fun k hk => by
    rw [appendByte_BUF]; exact isSome_lookup_bufWrite _ _ _ k h.written hk
  have hseq : (Machine.appendByte v s).SEQ = if s.CNT = 63 then .op else if s.FIN then .pad else .ready := by
    rw [appendByte_SEQ, h.seq]
  constructor
  case canonical => rw [appendByte_BUF]; exact bufWrite_wf _ _ _ h.canonical
  case pair => simp [h.phase]
  case readyFlags => rw [hseq]; split_ifs <;> simp [*, h.notLast]
  case padFlags => rw [hseq]; split_ifs <;> simp [*, h.notLast]
  case lastFin => simp [h.notLast]
  case fill => intro _ hf; simpa [appendByte_CNT] using h.count (by simpa using hf)
  case wholeBytes => intro _; simpa using h.wholeBytes
  case doneCount => simp [h.phase]
  case blockCount =>
    rw [hseq, appendByte_CNT]
    split_ifs with h63 <;> simp [h63]
  case filled =>
    intro _ _ k hk
    have hle : (s.CNT + 1).toNat ≤ s.CNT.toNat + 1 := by rw [BitVec.toNat_add]; exact Nat.mod_le _ _
    rw [appendByte_CNT] at hk
    exact hwritten k (by omega)
  case complete =>
    rw [hseq]
    split_ifs with h63
    · intro _ k hk; exact hwritten k (by rw [h63]; exact Nat.le_of_lt_succ hk)
    · simp
    · simp

theorem Safety.Inv.updateEffect {s : State} (h : Safety.Inv s) (hs : s.SEQ = .ready) (data : Byte) :
    Safety.Inv (updateEffect data s) := by
  by_cases hp : s.PHASE = .absorb
  · obtain ⟨hfin, hlast⟩ := h.readyFlags hs
    rw [updateEffect_absorb data s hp]
    refine Safety.Filling.appendByte ?_ data
    exact {
      canonical := h.canonical
      phase := hp
      seq := by simp [hs, hfin]
      notLast := hlast
      count := fun _ => by simp only [length_byteCount_add, h.fill hp hfin]
      wholeBytes := by simpa only [length_bitOffset_add] using h.wholeBytes (by simp [hp])
      written := h.filled hp (.inl hs) }
  · obtain ⟨code, e⟩ := updateEffect_rejected data s hp
    rw [e]; exact h.raiseUsageError code

theorem Safety.Inv.finalEffect {s : State} (h : Safety.Inv s) (hs : s.SEQ = .ready) : Safety.Inv (finalEffect s) := by
  by_cases hp : s.PHASE = .absorb
  · rw [finalEffect_absorb s hp]
    refine Safety.Filling.appendByte ?_ _
    exact {
      canonical := h.canonical
      phase := hp
      seq := rfl
      notLast := rfl
      count := fun hf => nomatch hf
      wholeBytes := h.wholeBytes (by simp [hp])
      written := h.filled hp (.inl hs) }
  · obtain ⟨code, e⟩ := finalEffect_rejected s hp
    rw [e]; exact h.raiseUsageError code

/-! ### The busy engine -/

/-- A busy engine is in a computation (R136). -/
theorem Safety.Inv.absorb_of_busy {s : State} (h : Safety.Inv s) (hs : s.SEQ ≠ .ready) : s.PHASE = .absorb :=
  ((Safety.legalPair_iff _ _).mp h.pair).resolve_right hs

theorem Safety.Inv.opResult {s : State} (h : Safety.Inv s) (hs : s.SEQ = .op) (f m : Word) :
    Safety.Inv (opResult f m s.T s) := by
  have hp : s.PHASE = .absorb := h.absorb_of_busy (by simp [hs])
  have hseq : (Machine.opResult f m s.T s).SEQ = .op ∨ (Machine.opResult f m s.T s).SEQ = .chain := by
    rw [opResult_SEQ]; split
    · exact .inr rfl
    · exact .inl hs
  constructor
  case canonical => simpa using h.canonical
  case pair => simp [hp]
  case readyFlags => intro e; simp [e] at hseq
  case padFlags => intro e; simp [e] at hseq
  case lastFin => simpa using h.lastFin
  case fill => simpa using h.fill
  case wholeBytes => simpa using h.wholeBytes
  case doneCount => simp [hp]
  case blockCount => intro _; simpa using h.blockCount (.inl hs)
  case filled => intro _ e; rcases e with e | e <;> simp [e] at hseq
  case complete => intro _; simpa [Safety.writtenBelow] using h.complete hs

theorem Safety.Inv.chainEffect {s : State} (h : Safety.Inv s) (hs : s.SEQ = .chain) (w : Quad) :
    Safety.Inv (afterChain (s.withQuad w)) := by
  have hp : s.PHASE = .absorb := h.absorb_of_busy (by simp [hs])
  have hc : s.CNT = 0 := h.blockCount (.inr hs)
  have hw : s.LEN.extractLsb' 0 3 = 0 := h.wholeBytes (by simp [hp])
  have hbelow : ∀ k, ¬ k < (afterChain (s.withQuad w)).CNT.toNat := fun k hk => by simp [hc] at hk
  cases hf : s.FIN with
  | false =>
    have hl : s.LAST = false := by simpa [hf] using h.lastFin
    have hfill : s.LEN.extractLsb' 3 6 = 0 := by rw [← h.fill hp hf, hc]
    constructor
    case filled => exact fun _ _ k hk => absurd hk (hbelow k)
    all_goals simp [afterChain, hp, hc, hw, hf, hl, hfill, h.canonical]
  | true =>
    cases hl : s.LAST <;> constructor
    case false.filled | true.filled => exact fun _ _ k hk => absurd hk (hbelow k)
    all_goals simp [afterChain, hp, hc, hw, hf, hl, h.canonical]

theorem Safety.Inv.padzEffect {s : State} (h : Safety.Inv s) (hs : s.SEQ = .pad) : Safety.Inv (appendByte 0x00 s) := by
  have hp : s.PHASE = .absorb := h.absorb_of_busy (by simp [hs])
  obtain ⟨hfin, hlast⟩ := h.padFlags hs
  refine Safety.Filling.appendByte ?_ _
  exact {
    canonical := h.canonical
    phase := hp
    seq := by simp [hs, hfin]
    notLast := hlast
    count := fun hf => by simp [hfin] at hf
    wholeBytes := h.wholeBytes (by simp [hp])
    written := h.filled hp (.inr hs) }

theorem Safety.Inv.padlEffect {s : State} (h : Safety.Inv s) (hs : s.SEQ = .pad) (hc : s.CNT = 56) :
    Safety.Inv (padlEffect s) := by
  have hp : s.PHASE = .absorb := h.absorb_of_busy (by simp [hs])
  obtain ⟨hfin, -⟩ := h.padFlags hs
  constructor
  case canonical => exact memWrite_wf _ _ _ _ h.canonical
  case wholeBytes => intro _; exact h.wholeBytes (by simp [hp])
  case complete =>
    intro _ k hk
    have hlow : k < 56 → (Memory.lookup s.BUF k).isSome = true := fun h56 =>
      h.filled hp (.inr hs) k (by rw [hc]; exact h56)
    simp only [Machine.padlEffect, startBlock_BUF]
    rw [lookup_memWrite _ _ _ _ _ (by decide)]
    split_ifs with hin
    · rfl
    · exact hlow (by simp at hin; omega)
  all_goals simp [Machine.padlEffect, hp, hfin]

/-! ### The step -/

theorem Safety.Inv.step {s t : State} (h : Safety.Inv s) (hc : StepCase s t) : Safety.Inv t := by
  have h' := h.shiftInput
  cases hc with
  | reset _ e => rw [e]; exact Safety.inv_resetEvent _
  | waits _ _ _ e => rw [e]; exact h'
  | rsvd _ _ _ _ e => rw [e]; exact h'.raiseUsageError _
  | init _ hs _ _ e => rw [e]; exact h'.initEffect hs
  | update _ hs data _ e => rw [e]; exact h'.updateEffect hs data
  | final _ hs _ _ e => rw [e]; exact h'.finalEffect hs
  | op _ hs m _ e => rw [e]; exact h'.opResult hs _ m
  | chain _ hs e => rw [e]; exact h'.chainEffect hs _
  | padz _ hs _ e => rw [e]; exact h'.padzEffect hs
  | padl _ hs hcnt e => rw [e]; exact h'.padlEffect hs hcnt

/-- Settles O41: a step cannot fault because a block under compression is written whole, and each effect it can have keeps
the invariant. -/
theorem everyStepKeepsInvariant : Obligations.EveryStepKeepsInvariant := by
  intro s h
  obtain ⟨t, ht⟩ := step_next_of_readable s fun hs => M_isOk s.BUF (g s.T) (h.complete hs)
  exact ⟨t, ht, h.step (step_cases s t ht)⟩

end Sys2Proof
end

section
/-! SUPPORT. The error flags influence nothing else: every effect of a step, on the state without them, gives the same state but
for them (R20). -/

namespace Sys2Proof

open Sys2Proof.Machine

/-- An outcome without the error flags of its next state. -/
def Safety.eraseOutcome : Outcome → Outcome
  | .next s => .next (Safety.eraseErrors s)
  | .fault e => .fault e
  | .refused r => .refused r

theorem Safety.eraseOutcome_next (s : State) : Safety.eraseOutcome (.next s) = .next (Safety.eraseErrors s) := rfl

theorem Safety.agreeButErrors_iff (x y : Outcome) :
    Safety.agreeButErrors x y ↔ Safety.eraseOutcome x = Safety.eraseOutcome y := by
  cases x <;> cases y <;> simp [Safety.agreeButErrors, Safety.eraseOutcome]

/-! ### The effects that do not read the flags -/

theorem eraseErrors_appendByte (v : Byte) (s : State) :
    Safety.eraseErrors (appendByte v s) = appendByte v (Safety.eraseErrors s) := by
  by_cases h : s.CNT = 63
  · rw [appendByte_last v s h, appendByte_last v (Safety.eraseErrors s) h]; rfl
  · rw [appendByte_inner v s h, appendByte_inner v (Safety.eraseErrors s) h]; rfl

theorem eraseErrors_opResult (f m : Word) (i : BitVec 6) (s : State) :
    Safety.eraseErrors (opResult f m i s) = opResult f m i (Safety.eraseErrors s) := by
  unfold opResult sequenceOp
  split <;> rfl

theorem eraseErrors_afterChain (s : State) : Safety.eraseErrors (afterChain s) = afterChain (Safety.eraseErrors s) := by
  cases hf : s.FIN <;> cases hl : s.LAST <;> simp [afterChain, Safety.eraseErrors, hf, hl]

/-! ### UPDATE and FINAL, which may raise the flags -/

theorem eraseErrors_updateEffect (data : Byte) (s : State) :
    Safety.eraseErrors (updateEffect data (Safety.eraseErrors s)) = Safety.eraseErrors (updateEffect data s) := by
  cases h : s.PHASE with
  | absorb =>
    rw [updateEffect_absorb data s h, updateEffect_absorb data (Safety.eraseErrors s) h]
    rw [eraseErrors_appendByte, eraseErrors_appendByte]; rfl
  | idle | done => simp [updateEffect, Safety.eraseErrors, raiseUsageError, h]

theorem eraseErrors_finalEffect (s : State) :
    Safety.eraseErrors (finalEffect (Safety.eraseErrors s)) = Safety.eraseErrors (finalEffect s) := by
  cases h : s.PHASE with
  | absorb =>
    rw [finalEffect_absorb s h, finalEffect_absorb (Safety.eraseErrors s) h]
    rw [eraseErrors_appendByte, eraseErrors_appendByte]; rfl
  | idle | done => simp [finalEffect, Safety.eraseErrors, raiseUsageError, h]

/-! ### The step -/

/-- A ready engine takes the same command whether the flags are there or not. -/
theorem Safety.eraseOutcome_exec_command (word : BitVec 10) (s : State) (hs : s.SEQ = .ready) :
    Safety.eraseOutcome (exec (decodeCmd word) (Safety.eraseErrors s)) = Safety.eraseOutcome (exec (decodeCmd word) s) := by
  have hs' : (Safety.eraseErrors s).SEQ = .ready := hs
  rcases decodeCmd_cases word with ⟨d, hd⟩ | ⟨d, hd⟩ | ⟨d, hd⟩ | ⟨d, hd⟩ <;> rw [hd]
  · rw [exec_rsvd d s hs, exec_rsvd d _ hs']; rfl
  · rw [exec_init d s hs, exec_init d _ hs']; rfl
  · rw [exec_update d s hs, exec_update d _ hs']
    exact congrArg Host.Outcome.next (eraseErrors_updateEffect d s)
  · rw [exec_final d s hs, exec_final d _ hs']
    exact congrArg Host.Outcome.next (eraseErrors_finalEffect s)

theorem Safety.eraseOutcome_execOp (f : Word) (j : BitVec 4) (i : BitVec 6) (s : State) (hs : s.SEQ = .op) (ht : s.T = i) :
    Safety.eraseOutcome (execOp f j i (Safety.eraseErrors s)) = Safety.eraseOutcome (execOp f j i s) := by
  cases hm : M s.BUF j with
  | ok m =>
    rw [execOp_ok f j i s m hs ht hm, execOp_ok f j i (Safety.eraseErrors s) m hs ht hm]
    rw [Safety.eraseOutcome_next, Safety.eraseOutcome_next, eraseErrors_opResult, eraseErrors_opResult]; rfl
  | error e => rw [execOp_fault f j i s e hs ht hm, execOp_fault f j i (Safety.eraseErrors s) e hs ht hm]

/-- A step of the state without its error flags is the step of the state, but for the error flags. -/
theorem Safety.eraseOutcome_step (s : State) :
    Safety.eraseOutcome (step (Safety.eraseErrors s)) = Safety.eraseOutcome (step s) := by
  cases hr : s.input.reset with
  | true => rw [step_reset s hr, step_reset (Safety.eraseErrors s) hr]; rfl
  | false =>
    cases hs : s.SEQ with
    | ready =>
      cases hv : s.input.cmdValid with
      | false =>
        have hsel : s.selected = none := by simp [selected_ready s hs, hv]
        rw [step_none s hr hsel, step_none (Safety.eraseErrors s) hr hsel]; rfl
      | true =>
        have hsel : s.selected = some (.cmd s.input.cmd) := by simp [selected_ready s hs, hv]
        rw [step_some s _ hr hsel, step_some (Safety.eraseErrors s) _ hr hsel]
        exact Safety.eraseOutcome_exec_command s.input.cmd s.shiftInput hs
    | op =>
      rw [step_op s hr hs, step_op (Safety.eraseErrors s) hr hs]
      exact Safety.eraseOutcome_execOp _ _ _ s.shiftInput hs rfl
    | chain =>
      rw [step_chain s hr hs, step_chain (Safety.eraseErrors s) hr hs]
      rw [Safety.eraseOutcome_next, Safety.eraseOutcome_next, eraseErrors_afterChain, eraseErrors_afterChain]; rfl
    | pad =>
      by_cases hc : s.CNT = 56
      · rw [step_padl s hr hs hc, step_padl (Safety.eraseErrors s) hr hs hc]; rfl
      · rw [step_padz s hr hs hc, step_padz (Safety.eraseErrors s) hr hs hc]
        rw [Safety.eraseOutcome_next, Safety.eraseOutcome_next, eraseErrors_appendByte, eraseErrors_appendByte]; rfl

/-- Settles O20: both steps are, but for the error flags, the step of their common state without them. -/
theorem errorFlagsInfluenceNothingElse : Obligations.ErrorFlagsInfluenceNothingElse := by
  intro s u h
  rw [Safety.agreeButErrors_iff, ← Safety.eraseOutcome_step s, h, Safety.eraseOutcome_step u]

end Sys2Proof
end

section
/-! SUPPORT. What a step writes: LEN, A..D and AA..DD, BUF, each with its writers (R11 to R15). -/

namespace Sys2Proof.Machine

/-! ### LEN (R15) -/

theorem updateEffect_LEN (data : Byte) (s : State) :
    (updateEffect data s).LEN = if s.PHASE = .absorb then s.LEN + 8 else s.LEN := by
  split
  · rw [updateEffect_absorb data s ‹_›, appendByte_LEN]
  · obtain ⟨code, e⟩ := updateEffect_rejected data s ‹_›
    rw [e, raiseUsageError_LEN]

@[simp] theorem finalEffect_LEN (s : State) : (finalEffect s).LEN = s.LEN := by
  unfold finalEffect; split <;> simp

/-- Settles O33: LEN after each effect a step can have, beside what that step accepted. -/
theorem lengthCountsMessageBits : Obligations.LengthCountsMessageBits := by
  intro s t hr ht
  cases step_cases s t ht with
  | reset h => rw [hr] at h; contradiction
  | waits _ _ hv e => rw [e, accepted_invalid s hv]; rfl
  | rsvd _ _ _ ha e => rw [e, ha]; rfl
  | init _ _ _ ha e => rw [e, ha]; rfl
  | update _ _ data ha e => rw [e, ha]; exact updateEffect_LEN data s.shiftInput
  | final _ _ _ ha e => rw [e, ha]; exact finalEffect_LEN s.shiftInput
  | op _ hs m _ e => rw [e, accepted_busy s (by simp [hs])]; exact opResult_LEN ..
  | chain _ hs e => rw [e, accepted_busy s (by simp [hs])]; exact afterChain_LEN _
  | padz _ hs _ e => rw [e, accepted_busy s (by simp [hs])]; exact appendByte_LEN _ _
  | padl _ hs _ e => rw [e, accepted_busy s (by simp [hs])]; rfl

/-! ### A..D and AA..DD (R11, R12, R108) -/

@[simp] theorem updateEffect_quad (data : Byte) (s : State) : (updateEffect data s).quad = s.quad := by
  by_cases hp : s.PHASE = .absorb
  · rw [updateEffect_absorb data s hp, appendByte_quad]; rfl
  · obtain ⟨code, e⟩ := updateEffect_rejected data s hp
    rw [e, State.quad_raiseUsageError]

@[simp] theorem finalEffect_quad (s : State) : (finalEffect s).quad = s.quad := by
  by_cases hp : s.PHASE = .absorb
  · rw [finalEffect_absorb s hp, appendByte_quad]; rfl
  · obtain ⟨code, e⟩ := finalEffect_rejected s hp
    rw [e, State.quad_raiseUsageError]

theorem quad_eq_or_writer {s t : State} (hr : s.input.reset = false) (hc : StepCase s t) :
    t.quad = s.quad ∨ Safety.AcceptsInit s ∨ s.SEQ = .op ∨ s.SEQ = .chain := by
  cases hc with
  | reset h => rw [hr] at h; contradiction
  | waits _ _ _ e => left; rw [e, State.quad_shiftInput]
  | rsvd _ _ _ _ e => left; rw [e, State.quad_raiseUsageError, State.quad_shiftInput]
  | init _ _ data ha => exact .inr (.inl ⟨data, ha⟩)
  | update _ _ _ _ e => left; rw [e, updateEffect_quad, State.quad_shiftInput]
  | final _ _ _ _ e => left; rw [e, finalEffect_quad, State.quad_shiftInput]
  | op _ hs => exact .inr (.inr (.inl hs))
  | chain _ hs => exact .inr (.inr (.inr hs))
  | padz _ _ _ e => left; rw [e, appendByte_quad, State.quad_shiftInput]
  | padl _ _ _ e => left; rw [e]; rfl

/-- AA..DD are written exactly by the block-start action, which saves A..D and clears T and CNT (R12, R108). -/
structure SavesAtBlockStart (s t : State) : Prop where
  savedOnlyAtStart : t.savedQuad ≠ s.savedQuad → s.SEQ ≠ .op ∧ t.SEQ = .op ∧ t.savedQuad = s.quad
  start : s.SEQ ≠ .op → t.SEQ = .op → t.savedQuad = t.quad ∧ t.quad = s.quad ∧ t.T = 0 ∧ t.CNT = 0

theorem SavesAtBlockStart.of_no_start {s t : State} (hsaved : t.savedQuad = s.savedQuad)
    (hseq : s.SEQ ≠ .op → t.SEQ ≠ .op) : SavesAtBlockStart s t :=
  ⟨fun h => absurd hsaved h, fun hs ht => absurd ht (hseq hs)⟩

/-- Dropping the host's input writes none of the registers. -/
theorem SavesAtBlockStart.of_shiftInput {s t : State} (h : SavesAtBlockStart s.shiftInput t) : SavesAtBlockStart s t :=
  ⟨h.savedOnlyAtStart, h.start⟩

/-- Appending a byte to a state u that has the registers of s. -/
theorem SavesAtBlockStart.of_appendByte {s u : State} (v : Byte) (hs : s.SEQ ≠ .op) (hu : u.SEQ ≠ .op)
    (hquad : u.quad = s.quad) (hsaved : u.savedQuad = s.savedQuad) : SavesAtBlockStart s (appendByte v u) := by
  by_cases h63 : u.CNT = 63
  · exact ⟨fun _ => ⟨hs, by simp [appendByte_SEQ, h63], by simp [appendByte_savedQuad, h63, hquad]⟩,
      fun _ _ => by simp [appendByte_savedQuad, appendByte_T, appendByte_CNT, h63, hquad]⟩
  · exact .of_no_start (by rw [appendByte_savedQuad, if_neg h63, hsaved]) fun _ => by rwa [appendByte_SEQ, if_neg h63]

theorem savesAtBlockStart_updateEffect (data : Byte) (s : State) (hs : s.SEQ = .ready) :
    SavesAtBlockStart s (updateEffect data s) := by
  have hop : s.SEQ ≠ .op := by simp [hs]
  by_cases hp : s.PHASE = .absorb
  · rw [updateEffect_absorb data s hp]
    exact .of_appendByte data hop hop rfl rfl
  · obtain ⟨code, e⟩ := updateEffect_rejected data s hp
    rw [e]; exact .of_no_start rfl id

theorem savesAtBlockStart_finalEffect (s : State) (hs : s.SEQ = .ready) : SavesAtBlockStart s (finalEffect s) := by
  have hop : s.SEQ ≠ .op := by simp [hs]
  by_cases hp : s.PHASE = .absorb
  · rw [finalEffect_absorb s hp]
    exact .of_appendByte 0x80 hop (by simp) rfl rfl
  · obtain ⟨code, e⟩ := finalEffect_rejected s hp
    rw [e]; exact .of_no_start rfl id

theorem savesAtBlockStart_of_stepCase {s t : State} (hr : s.input.reset = false) (hc : StepCase s t) :
    SavesAtBlockStart s t := by
  refine .of_shiftInput ?_
  cases hc with
  | reset h => rw [hr] at h; contradiction
  | waits _ _ _ e | rsvd _ _ _ _ e | init _ _ _ _ e => rw [e]; exact .of_no_start rfl id
  | update _ hs data _ e => rw [e]; exact savesAtBlockStart_updateEffect data s.shiftInput hs
  | final _ hs _ _ e => rw [e]; exact savesAtBlockStart_finalEffect s.shiftInput hs
  | op _ hs m _ e => rw [e]; exact .of_no_start (opResult_savedQuad ..) fun h => absurd hs h
  | chain _ _ e =>
    rw [e]; exact .of_no_start (by simp) fun _ => by rw [afterChain_SEQ]; split_ifs <;> simp
  | padz _ hs _ e =>
    have hop : s.shiftInput.SEQ ≠ .op := by simp [hs]
    rw [e]; exact .of_appendByte 0x00 hop hop rfl rfl
  | padl _ hs _ e => rw [e]; exact ⟨fun _ => ⟨by simp [hs], rfl, rfl⟩, fun _ _ => ⟨rfl, rfl, rfl, rfl⟩⟩

/-- Settles O34: the writers of A..D, and the block-start action as the only writer of AA..DD. -/
theorem accumulatorWriters : Obligations.AccumulatorWriters := by
  intro s t hr ht
  have hc := step_cases s t ht
  obtain ⟨hsaved, hstart⟩ := savesAtBlockStart_of_stepCase hr hc
  exact ⟨(quad_eq_or_writer hr hc).resolve_left, hsaved, hstart⟩

/-! ### BUF (R13, R40, R46) -/

theorem eq_CNT_of_bufRead_appendByte_ne {v : Byte} {s : State} {a : BitVec 6}
    (h : bufRead (appendByte v s).BUF a ≠ bufRead s.BUF a) : a = s.CNT := by
  by_contra hne
  exact h (by rw [appendByte_BUF, bufRead_bufWrite_other _ _ _ _ hne])

theorem bufRead_updateEffect_ne {data : Byte} {s : State} {a : BitVec 6}
    (h : bufRead (updateEffect data s).BUF a ≠ bufRead s.BUF a) : a = s.CNT ∧ s.PHASE = .absorb := by
  by_cases hp : s.PHASE = .absorb
  · rw [updateEffect_absorb data s hp] at h
    exact ⟨eq_CNT_of_bufRead_appendByte_ne (s := { s with LEN := s.LEN + 8 }) h, hp⟩
  · obtain ⟨code, e⟩ := updateEffect_rejected data s hp
    rw [e] at h; exact absurd rfl h

theorem bufRead_finalEffect_ne {s : State} {a : BitVec 6}
    (h : bufRead (finalEffect s).BUF a ≠ bufRead s.BUF a) : a = s.CNT ∧ s.PHASE = .absorb := by
  by_cases hp : s.PHASE = .absorb
  · rw [finalEffect_absorb s hp] at h
    exact ⟨eq_CNT_of_bufRead_appendByte_ne (s := { s with FIN := true, LAST := false, SEQ := .pad }) h, hp⟩
  · obtain ⟨code, e⟩ := finalEffect_rejected s hp
    rw [e] at h; exact absurd rfl h

/-- PADL leaves the bytes below 56 alone (R86). -/
theorem le_of_bufRead_padlEffect_ne {s : State} {a : BitVec 6}
    (h : bufRead (padlEffect s).BUF a ≠ bufRead s.BUF a) : 56 ≤ a.toNat := by
  by_contra hlt
  refine h (bufRead_congr _ _ _ ?_)
  simp only [padlEffect, startBlock_BUF]
  rw [lookup_memWrite _ _ _ _ _ (by decide), if_neg]
  exact fun hin => hlt hin.1

/-- Settles O35: appending a byte changes the one at CNT, PADL those from 56 on, and no other effect writes BUF. -/
theorem bufferWriters : Obligations.BufferWriters := by
  intro s t hr ht a hne
  cases step_cases s t ht with
  | reset h => rw [hr] at h; contradiction
  | waits _ _ _ e | rsvd _ _ _ _ e | init _ _ _ _ e => rw [e] at hne; exact absurd rfl hne
  | update _ _ data ha e =>
    rw [e] at hne
    obtain ⟨hat, hp⟩ := bufRead_updateEffect_ne (s := s.shiftInput) hne
    exact .inl ⟨hat, hp, data, ha⟩
  | final _ _ data ha e =>
    rw [e] at hne
    obtain ⟨hat, hp⟩ := bufRead_finalEffect_ne (s := s.shiftInput) hne
    exact .inr (.inl ⟨hat, hp, data, ha⟩)
  | op _ _ m _ e => rw [e, opResult_BUF] at hne; exact absurd rfl hne
  | chain _ _ e => rw [e, afterChain_BUF] at hne; exact absurd rfl hne
  | padz _ hs _ e =>
    rw [e] at hne
    exact .inr (.inr (.inl ⟨eq_CNT_of_bufRead_appendByte_ne (s := s.shiftInput) hne, hs⟩))
  | padl _ hs hc e =>
    rw [e] at hne
    exact .inr (.inr (.inr ⟨le_of_bufRead_padlEffect_ne (s := s.shiftInput) hne, hs, hc⟩))

end Sys2Proof.Machine
end

section
/-! SUPPORT. The fields of STATUS (R21), and the state after Reset (R27). -/

namespace Sys2Proof.Machine

/-! ### STATUS -/

theorem status_rdy (s : State) : s.status.getLsbD 0 = decide (s.SEQ = .ready) := by
  simp only [State.status, BitVec.getLsbD_append]
  simp [State.rdy, beq_eq_decide]

theorem status_done (s : State) : s.status.getLsbD 1 = decide (s.PHASE = .done) := by
  simp only [State.status, BitVec.getLsbD_append]
  simp [State.done, beq_eq_decide]

theorem status_err (s : State) : s.status.getLsbD 2 = s.ERR := by
  simp only [State.status, BitVec.getLsbD_append]
  simp

theorem status_phase (s : State) : s.status.extractLsb' 3 2 = s.PHASE.code := by
  unfold State.status
  rw [BitVec.extractLsb'_append_eq_of_le (by decide), BitVec.extractLsb'_append_eq_of_le (by decide),
    BitVec.extractLsb'_append_eq_of_le (by decide)]
  exact BitVec.extractLsb'_append_eq_right

theorem status_errcode (s : State) : s.status.extractLsb' 5 3 = s.ERRCODE.code := by
  unfold State.status
  rw [BitVec.extractLsb'_append_eq_of_le (by decide), BitVec.extractLsb'_append_eq_of_le (by decide),
    BitVec.extractLsb'_append_eq_of_le (by decide)]
  exact BitVec.extractLsb'_append_eq_left

/-- STATUS without ERR and ERRCODE. -/
theorem status_masked (s : State) :
    s.status &&& 0x1b = 0#3 ++ s.PHASE.code ++ 0#1 ++ BitVec.ofBool s.done ++ BitVec.ofBool s.rdy := by
  change (_ ++ _ ++ _ ++ _ ++ _ : BitVec (3 + 2 + 1 + 1 + 1)) &&&
    (0#3 ++ BitVec.allOnes 2 ++ 0#1 ++ BitVec.allOnes 1 ++ BitVec.allOnes 1) = _
  simp only [BitVec.and_append, BitVec.and_zero, BitVec.and_allOnes]

/-- Of the pairs of R136, only four values of STATUS without ERR and ERRCODE can come. -/
theorem status_masked_of_pair (s : State) (h : s.PHASE = .absorb ∨ s.SEQ = .ready) :
    s.status &&& 0x1b = 0x01 ∨ s.status &&& 0x1b = 0x09 ∨ s.status &&& 0x1b = 0x08 ∨ s.status &&& 0x1b = 0x13 := by
  rw [status_masked]
  unfold State.done State.rdy
  rcases h with h | h <;> rw [h]
  · cases s.SEQ <;> decide
  · cases s.PHASE <;> decide

/-- Settles O43: the fields are the appended parts of STATUS, and the pairs of R136 leave four values of PHASE, DONE and RDY. -/
theorem statusFields : Obligations.StatusFields := by
  refine ⟨fun s => ⟨status_rdy s, status_done s, status_err s, status_phase s, status_errcode s⟩, fun s h => ?_,
    rfl, rfl, rfl⟩
  have hpair := (Safety.legalPair_iff _ _).mp h.pair
  refine ⟨status_masked_of_pair s hpair, fun hdone => ?_⟩
  rw [status_done, decide_eq_true_eq] at hdone
  rw [status_rdy, decide_eq_true_eq]
  exact hpair.resolve_left (by simp [hdone])

/-! ### The state after Reset -/

theorem bufRead_unwritten (i : BitVec 6) : bufRead [] i = .error (.bufUnwritten i.toNat) := rfl

/-- Settles O6: each field by its definition, and BUF by having no cell. -/
theorem resetStateAsSpecified : Obligations.ResetStateAsSpecified :=
  ⟨rfl, rfl, rfl, rfl, rfl, rfl, by decide, rfl, bufRead_unwritten⟩

/-- Settles O40: what R27 gives is enough for the invariant; the values it leaves open play no part. -/
theorem resetMeetsInvariants : Obligations.ResetMeetsInvariants :=
  ⟨Safety.inv_of_idle rfl rfl rfl rfl rfl, ⟨by decide, by decide⟩, by simp [Safety.NoReset, State.reset]⟩

end Sys2Proof.Machine
end

section
/-! SUPPORT. BUF as memory: what MemRead answers, with a value or with a fault, in terms of its single bytes (R45, U1), the word view
(R41), and the canonical form that every step keeps. -/

namespace Sys2Proof.Machine

/-! ### Indices of BUF -/

theorem bufIndex_add_one_add (addr : BitVec 6) (k : Nat) :
    addr + 1 + BitVec.ofNat 6 k = addr + BitVec.ofNat 6 (k + 1) := by
  rw [BitVec.add_assoc, Nat.add_comm k 1, BitVec.ofNat_add]; rfl

theorem bufIndex_ofNat_add (addr : BitVec 6) (k : Nat) :
    BitVec.ofNat 6 (addr.toNat + k) = addr + BitVec.ofNat 6 k := by
  rw [BitVec.ofNat_add, BitVec.ofNat_toNat, BitVec.setWidth_eq]

theorem bufRead_ofNat_eq_ok (m : Memory) (i : Nat) (v : Byte) (hi : i < 64) :
    bufRead m (BitVec.ofNat 6 i) = .ok v ↔ Memory.lookup m i = some v := by
  rw [bufRead_eq_ok, BitVec.toNat_ofNat, Nat.mod_eq_of_lt hi]

theorem bufRead_eq_error (m : Memory) (i : BitVec 6) (e : Fault) :
    bufRead m i = .error e ↔ e = .bufUnwritten i.toNat ∧ Memory.lookup m i.toNat = none := by
  unfold bufRead
  split <;> simp [*, eq_comm]

/-! ### Numbers as little-endian bytes (R45) -/

/-- The sum of R45: the number that n bytes stand for. -/
def littleEndianSum (n : Nat) (bytes : Nat → Byte) : Nat :=
  ((List.range n).map fun k => 2 ^ (8 * k) * (bytes k).toNat).sum

theorem littleEndianSum_succ (n : Nat) (bytes : Nat → Byte) :
    littleEndianSum (n + 1) bytes = (bytes 0).toNat + 256 * littleEndianSum n fun k => bytes (k + 1) := by
  have hshift : ∀ k, 2 ^ (8 * (k + 1)) * (bytes (k + 1)).toNat = 256 * (2 ^ (8 * k) * (bytes (k + 1)).toNat) := fun k => by
    rw [Nat.mul_succ, Nat.pow_add]; ring
  rw [littleEndianSum, List.range_succ_eq_map, List.map_cons, List.sum_cons, List.map_map, littleEndianSum,
    ← List.sum_map_mul_left]
  simp [Function.comp_def, hshift]

/-- The bytes of a number, from the lowest, add up to it as far as they reach. -/
theorem littleEndianSum_bytes (n v : Nat) :
    littleEndianSum n (fun k => BitVec.ofNat 8 (v / 2 ^ (8 * k))) = v % 2 ^ (8 * n) := by
  unfold littleEndianSum
  induction n with
  | zero => simp [Nat.mod_one]
  | succ n ih =>
    rw [List.range_succ, List.map_append, List.sum_append, ih, Nat.mul_succ, Nat.pow_add, Nat.mod_mul]
    simp

/-! ### MemRead byte by byte (R45) -/

/-- MemRead of one byte more: the fault of its lowest byte, that of the bytes above, or the value of both. -/
theorem memRead_succ_cases (m : Memory) (addr : BitVec 6) (n : Nat) :
    (∃ e, bufRead m addr = .error e ∧ memRead m addr (n + 1) = .error e) ∨
    (∃ low e, bufRead m addr = .ok low ∧ memRead m (addr + 1) n = .error e ∧ memRead m addr (n + 1) = .error e) ∨
    (∃ low high, bufRead m addr = .ok low ∧ memRead m (addr + 1) n = .ok high ∧
      memRead m addr (n + 1) = .ok (low.toNat + 256 * high)) := by
  cases hlow : bufRead m addr with
  | error e => exact .inl ⟨e, rfl, by simp only [memRead, hlow]⟩
  | ok low =>
    cases hhigh : memRead m (addr + 1) n with
    | error e => exact .inr (.inl ⟨low, e, rfl, rfl, by simp only [memRead, hlow, hhigh]⟩)
    | ok high => exact .inr (.inr ⟨low, high, rfl, rfl, memRead_succ_ok m addr n low high hlow hhigh⟩)

theorem memRead_eq_littleEndianSum (m : Memory) (addr : BitVec 6) (n : Nat) (bytes : Nat → Byte)
    (h : ∀ k < n, bufRead m (addr + BitVec.ofNat 6 k) = .ok (bytes k)) :
    memRead m addr n = .ok (littleEndianSum n bytes) := by
  induction n generalizing addr bytes with
  | zero => rfl
  | succ n ih =>
    have hlow : bufRead m addr = .ok (bytes 0) := by simpa using h 0 (Nat.succ_pos n)
    have hhigh := ih (addr + 1) (fun k => bytes (k + 1)) fun k hk => by
      rw [bufIndex_add_one_add]; exact h (k + 1) (Nat.succ_lt_succ hk)
    rw [memRead_succ_ok m addr n _ _ hlow hhigh, littleEndianSum_succ]

/-- MemRead answers a value only if it has read each of its bytes. -/
theorem bufRead_ok_of_memRead (m : Memory) (addr : BitVec 6) (n v : Nat) (h : memRead m addr n = .ok v) :
    ∀ k < n, ∃ b, bufRead m (addr + BitVec.ofNat 6 k) = .ok b := by
  induction n generalizing addr v with
  | zero => exact fun k hk => absurd hk (Nat.not_lt_zero k)
  | succ n ih =>
    obtain ⟨e, -, he⟩ | ⟨low, e, -, -, he⟩ | ⟨low, high, hlow, hhigh, -⟩ := memRead_succ_cases m addr n
    · rw [he] at h; contradiction
    · rw [he] at h; contradiction
    · rintro (_ | k) hk
      · exact ⟨low, by simpa using hlow⟩
      · rw [← bufIndex_add_one_add]; exact ih (addr + 1) high hhigh k (Nat.lt_of_succ_lt_succ hk)

/-- A fault of MemRead is the fault of one of its bytes. -/
theorem bufRead_error_of_memRead (m : Memory) (addr : BitVec 6) (n : Nat) (e : Fault) (h : memRead m addr n = .error e) :
    ∃ k < n, bufRead m (addr + BitVec.ofNat 6 k) = .error e := by
  induction n generalizing addr with
  | zero => contradiction
  | succ n ih =>
    obtain ⟨e', hlow, he⟩ | ⟨low, e', -, hhigh, he⟩ | ⟨low, high, -, -, he⟩ := memRead_succ_cases m addr n
    · rw [he] at h; cases h
      exact ⟨0, Nat.succ_pos n, by simpa using hlow⟩
    · rw [he] at h; cases h
      obtain ⟨k, hk, hread⟩ := ih (addr + 1) hhigh
      exact ⟨k + 1, Nat.succ_lt_succ hk, by rw [← bufIndex_add_one_add]; exact hread⟩
    · rw [he] at h; contradiction

/-! ### MemRead of what MemWrite has written (R45) -/

theorem bufRead_memWrite_inside (m : Memory) (addr : BitVec 6) (n v k : Nat) (hn : addr.toNat + n ≤ 64) (hk : k < n) :
    bufRead (memWrite m addr n v) (BitVec.ofNat 6 (addr.toNat + k)) = .ok (BitVec.ofNat 8 (v / 2 ^ (8 * k))) := by
  rw [bufRead_ofNat_eq_ok _ _ _ (by omega), lookup_memWrite _ _ _ _ _ hn, if_pos (by omega), Nat.add_sub_cancel_left]

theorem bufRead_memWrite_outside (m : Memory) (addr a : BitVec 6) (n v : Nat) (hn : addr.toNat + n ≤ 64)
    (ha : a.toNat < addr.toNat ∨ addr.toNat + n ≤ a.toNat) :
    bufRead (memWrite m addr n v) a = bufRead m a :=
  bufRead_congr _ _ _ (by rw [lookup_memWrite _ _ _ _ _ hn, if_neg (by omega)])

theorem memRead_memWrite_same (m : Memory) (addr : BitVec 6) (n v : Nat) (hn : addr.toNat + n ≤ 64)
    (hv : v < 2 ^ (8 * n)) : memRead (memWrite m addr n v) addr n = .ok v := by
  rw [memRead_eq_littleEndianSum _ _ _ (fun k => BitVec.ofNat 8 (v / 2 ^ (8 * k))), littleEndianSum_bytes, Nat.mod_eq_of_lt hv]
  intro k hk
  rw [← bufIndex_ofNat_add]; exact bufRead_memWrite_inside m addr n v k hn hk

/-- Settles O48: MemRead is the sum of its bytes, and MemWrite stores the bytes whose sum is the number. -/
theorem bufferAccessLittleEndian : Obligations.BufferAccessLittleEndian := by
  intro m addr n hn
  refine ⟨fun bytes h => memRead_eq_littleEndianSum m addr n bytes fun k hk => ?_, fun v hv => ⟨fun k hk => ?_, ?_, fun a ha => ?_⟩⟩
  · rw [← bufIndex_ofNat_add]; exact h k hk
  · exact bufRead_memWrite_inside m addr n v k hn hk
  · exact memRead_memWrite_same m addr n v hn hv
  · exact bufRead_memWrite_outside m addr a n v hn ha

/-! ### The word view (R41) -/

theorem wordAddress_add_ofNat_toNat (j : BitVec 4) (k : Nat) (hk : k < 4) :
    ((j ++ 0#2 : BitVec 6) + BitVec.ofNat 6 k).toNat = 4 * j.toNat + k := by
  have hk6 : (BitVec.ofNat 6 k).toNat = k := by rw [BitVec.toNat_ofNat, Nat.mod_eq_of_lt (by omega)]
  rw [wordAddress_add_toNat j _ (by omega), hk6]

/-- The word view reads only what has been written. -/
theorem lookup_ne_none_of_M_ok (m : Memory) (j : BitVec 4) (w : Word) (h : M m j = .ok w) :
    ∀ k < 4, Memory.lookup m (4 * j.toNat + k) ≠ none := by
  intro k hk
  unfold M at h
  split at h
  · contradiction
  · obtain ⟨b, hb⟩ := bufRead_ok_of_memRead _ _ _ _ ‹_› k hk
    rw [bufRead_eq_ok, wordAddress_add_ofNat_toNat j k hk] at hb
    simp [hb]

/-- The word view faults on an unwritten byte of the word, and names it (U1). -/
theorem unwritten_of_M_error (m : Memory) (j : BitVec 4) (e : Fault) (h : M m j = .error e) :
    ∃ k < 4, e = .bufUnwritten (4 * j.toNat + k) ∧ Memory.lookup m (4 * j.toNat + k) = none := by
  unfold M at h
  split at h
  · cases h
    obtain ⟨k, hk, hread⟩ := bufRead_error_of_memRead _ _ _ _ ‹_›
    rw [bufRead_eq_error, wordAddress_add_ofNat_toNat j k hk] at hread
    exact ⟨k, hk, hread⟩
  · contradiction

/-- Settles O49: four bytes of 8 bits fill a word without overflow. -/
theorem wordViewLittleEndian : Obligations.WordViewLittleEndian := by
  intro m j b0 b1 b2 b3 h0 h1 h2 h3
  have hj := j.isLt
  rw [bufRead_ofNat_eq_ok _ _ _ (by omega)] at h0 h1 h2 h3
  refine ⟨_, M_of_lookup m j b0 b1 b2 b3 h0 h1 h2 h3, ?_⟩
  rw [BitVec.toNat_ofNat, Nat.mod_eq_of_lt (by omega)]

/-! ### Where an operation faults (U1) -/

/-- An enabled operation faults exactly as the read of its message word does. -/
theorem execOp_eq_fault_iff (f : Word) (j : BitVec 4) (i : BitVec 6) (s : State) (e : Fault) (hs : s.SEQ = .op)
    (ht : s.T = i) : execOp f j i s = .fault e ↔ M s.BUF j = .error e := by
  cases hm : M s.BUF j with
  | ok m => simp [execOp_ok f j i s m hs ht hm]
  | error e' => simp [execOp_fault f j i s e' hs ht hm]

/-- Settles O26: the fault is that of the word view, which reads its word exactly when the four bytes have been written. -/
theorem operationFaultsOnlyOnUnwrittenByte : Obligations.OperationFaultsOnlyOnUnwrittenByte := by
  intro row hrow s hs ht
  simp only [exec_row row hrow, execOp_eq_fault_iff _ _ _ _ _ hs ht]
  refine ⟨⟨?_, ?_⟩, fun f hf => unwritten_of_M_error _ _ f hf⟩
  · rintro ⟨f, hf⟩
    obtain ⟨k, hk, -, hnone⟩ := unwritten_of_M_error _ _ f hf
    exact ⟨k, hk, hnone⟩
  · rintro ⟨k, hk, hnone⟩
    cases hm : M s.BUF row.g with
    | error f => exact ⟨f, rfl⟩
    | ok w => exact absurd hnone (lookup_ne_none_of_M_ok _ _ w hm k hk)

/-! ### The canonical form of BUF -/

theorem appendByte_wf (v : Byte) (s : State) (h : s.BUF.wf = true) : (appendByte v s).BUF.wf = true := by
  rw [appendByte_BUF]; exact bufWrite_wf _ _ _ h

theorem updateEffect_wf (data : Byte) (s : State) (h : s.BUF.wf = true) : (updateEffect data s).BUF.wf = true := by
  by_cases hp : s.PHASE = .absorb
  · rw [updateEffect_absorb data s hp]; exact appendByte_wf data _ h
  · obtain ⟨code, e⟩ := updateEffect_rejected data s hp
    rw [e]; exact h

theorem finalEffect_wf (s : State) (h : s.BUF.wf = true) : (finalEffect s).BUF.wf = true := by
  by_cases hp : s.PHASE = .absorb
  · rw [finalEffect_absorb s hp]; exact appendByte_wf _ _ h
  · obtain ⟨code, e⟩ := finalEffect_rejected s hp
    rw [e]; exact h

/-- Settles O39: only appended bytes and PADL's length field are stored, each in its place; Reset empties BUF. -/
theorem stepKeepsBufferCanonical : Obligations.StepKeepsBufferCanonical := by
  intro s t h ht
  cases step_cases s t ht with
  | reset _ e => rw [e]; rfl
  | waits _ _ _ e | rsvd _ _ _ _ e | init _ _ _ _ e => rw [e]; exact h
  | update _ _ data _ e => rw [e]; exact updateEffect_wf data s.shiftInput h
  | final _ _ _ _ e => rw [e]; exact finalEffect_wf s.shiftInput h
  | op _ _ m _ e => rw [e, opResult_BUF]; exact h
  | chain _ _ e => rw [e, afterChain_BUF]; exact h
  | padz _ _ _ e => rw [e]; exact appendByte_wf _ s.shiftInput h
  | padl _ _ _ e => rw [e]; exact memWrite_wf _ _ _ _ h

end Sys2Proof.Machine
end

section
/-! SUPPORT. Encoding and decoding: every command word and every operation index is the encoding of an instruction (R61, R65), the
opcode map by its mask (R61), raw bits of the width of a command (R60), and the ignored data field (R62). -/

namespace Sys2Proof

open Sys2Proof.Machine

/-! ### Decoding gives the instruction back -/

/-- The four commands carry their data through the word; every other instruction has one fixed selector. -/
@[simp] theorem decode_encode (i : Instr) : decode (encode i) = i := by
  cases i with
  | rsvd data => exact Laws.RoundTrip.rsvd data
  | init data => exact Laws.RoundTrip.init data
  | update data => exact Laws.RoundTrip.update data
  | final data => exact Laws.RoundTrip.final data
  | _ => rfl

/-! ### The two fields of a command word (R60) -/

theorem commandWord_fields (word : BitVec 10) :
    commandWord (word.extractLsb' 8 2) (word.extractLsb' 0 8) = word :=
  BitVec.extractLsb'_append_extractLsb' (w := 2) (len := 8)

theorem opField_cases (op : BitVec 2) : op = 0b00#2 ∨ op = 0b01#2 ∨ op = 0b10#2 ∨ op = 0b11#2 := by
  revert op; decide

/-- The mask of R61 keeps the op field and clears the data field. -/
theorem commandWord_and_opMask (op : BitVec 2) (data : Byte) : commandWord op data &&& 0x300 = commandWord op 0 := by
  calc commandWord op data &&& 0x300
    _ = (op ++ data) &&& (BitVec.allOnes 2 ++ 0#8) := rfl
    _ = (op &&& BitVec.allOnes 2) ++ (data &&& 0#8) := BitVec.and_append
    _ = commandWord op 0 := by rw [BitVec.and_allOnes, BitVec.and_zero]; rfl

theorem and_opMask (word : BitVec 10) : word &&& 0x300 = commandWord (word.extractLsb' 8 2) 0 := by
  rw [← commandWord_and_opMask _ (word.extractLsb' 0 8), commandWord_fields]

/-- A word whose masked value is that of op is the command word of op with its own data. -/
theorem eq_commandWord_of_and_opMask {word : BitVec 10} {op : BitVec 2} (h : word &&& 0x300 = commandWord op 0) :
    word = commandWord op (word.extractLsb' 0 8) := by
  have hop : word.extractLsb' 8 2 = op := by
    rw [← commandWord_op (word.extractLsb' 8 2) 0, ← and_opMask, h, commandWord_op]
  rw [← hop, commandWord_fields]

/-! ### Encoding gives the word back -/

theorem exists_encode_eq_commandWord (op : BitVec 2) (data : Byte) : ∃ i, encode i = .cmd (commandWord op data) := by
  rcases opField_cases op with rfl | rfl | rfl | rfl
  · exact ⟨.rsvd data, rfl⟩
  · exact ⟨.init data, rfl⟩
  · exact ⟨.update data, rfl⟩
  · exact ⟨.final data, rfl⟩

theorem encode_schedule_row : ∀ row ∈ schedule, encode row.instr = .step row.i := by decide

/-- A selector that some instruction has as its encoding survives decoding. -/
theorem encode_decode_of_exists {selector : Selector} (h : ∃ i, encode i = selector) :
    encode (decode selector) = selector := by
  obtain ⟨i, rfl⟩ := h
  rw [decode_encode]

theorem encode_decode_cmd (word : BitVec 10) : encode (decode (.cmd word)) = .cmd word := by
  rw [← commandWord_fields word]
  exact encode_decode_of_exists (exists_encode_eq_commandWord _ _)

theorem encode_decode_step (index : BitVec 6) : encode (decode (.step index)) = .step index := by
  obtain ⟨row, hrow, rfl⟩ := schedule_covers index
  exact encode_decode_of_exists ⟨row.instr, encode_schedule_row row hrow⟩

/-- Settles O1: `encode` is a right inverse of `decode`, and its values include every command word and every operation index. -/
theorem instructionEncodingsRoundTrip : Obligations.InstructionEncodingsRoundTrip :=
  ⟨decode_encode, encode_decode_cmd, encode_decode_step⟩

/-! ### The opcode map by mask and match (R61) -/

theorem decode_cmd_of_and_opMask {word : BitVec 10} {op : BitVec 2} {i : Instr}
    (h : word &&& 0x300 = commandWord op 0) (hi : encode i = .cmd (commandWord op (word.extractLsb' 0 8))) : decode (.cmd word) = i := by
  rw [eq_commandWord_of_and_opMask h, ← hi, decode_encode]

theorem and_opMask_cases (word : BitVec 10) :
    word &&& 0x300 = 0x000 ∨ word &&& 0x300 = 0x100 ∨ word &&& 0x300 = 0x200 ∨ word &&& 0x300 = 0x300 := by
  rw [and_opMask]
  rcases opField_cases (word.extractLsb' 8 2) with h | h | h | h <;> rw [h] <;> decide

/-! ### Raw bits of the width of a command (assumption log, entry 7) -/

theorem decodeTableWord_command (w : Nat) (h : w < 1024) :
    decodeTableWord 16 w = some (decode (.cmd (BitVec.ofNat 10 w))) := by
  simp [decodeTableWord, selectorOfBits, h]

theorem decodeTableWord_commandTooWide (w : Nat) (h : 1024 ≤ w) : decodeTableWord 16 w = none := by
  simp [decodeTableWord, selectorOfBits, Nat.not_lt.mpr h]

/-- Settles O2: the masked word is its op field, which names the row of R61 that encodes to the word. -/
theorem commandWordsDecodeByOpField : Obligations.CommandWordsDecodeByOpField := by
  refine ⟨fun word => ⟨fun h => ?_, fun h => ?_, fun h => ?_, fun h => ?_, and_opMask_cases word⟩,
    decodeTableWord_command, decodeTableWord_commandTooWide⟩
  · exact decode_cmd_of_and_opMask (op := 0b00#2) h rfl
  · exact decode_cmd_of_and_opMask (op := 0b01#2) h rfl
  · exact decode_cmd_of_and_opMask (op := 0b10#2) h rfl
  · exact decode_cmd_of_and_opMask (op := 0b11#2) h rfl

/-! ### The sequencer's choice and sample words -/

/-- Settles O3: the schedule's rows carry the instruction of their index; CHAIN and PAD decode as R135 has them. -/
theorem sequencerSelectsScheduledOperation : Obligations.SequencerSelectsScheduledOperation :=
  ⟨fun row hrow => (schedule_row row hrow).1, rfl, fun _ => rfl⟩

/-- Settles O4: each of the words is the encoding of its instruction. -/
theorem sampleWordsDecode : Obligations.SampleWordsDecode :=
  ⟨decode_encode (.rsvd 0x55), decode_encode (.init 0x00), decode_encode (.update 0x68), decode_encode (.final 0x00),
    decode_encode .ff7, decode_encode .gg26, decode_encode .hh33, decode_encode .ii62⟩

/-! ### The ignored data field (R62) -/

theorem exec_init_data (d e : Byte) (s : State) : exec (.init d) s = exec (.init e) s := rfl

theorem exec_final_data (d e : Byte) (s : State) : exec (.final d) s = exec (.final e) s := rfl

theorem exec_rsvd_data (d e : Byte) (s : State) : exec (.rsvd d) s = exec (.rsvd e) s := rfl

/-- Instructions that run alike run alike from their encodings. -/
theorem exec_decode_encode_congr {i j : Instr} {s : State} (h : exec i s = exec j s) :
    exec (decode (encode i)) s = exec (decode (encode j)) s := by
  rw [decode_encode, decode_encode, h]

/-- Settles O5: the meanings of INIT, FINAL and RSVD do not read their data, and the canonical form fixes it to 0. -/
theorem ignoredDataFieldSelectsSameBehaviour : Obligations.IgnoredDataFieldSelectsSameBehaviour := by
  refine ⟨fun data s => ⟨?_, ?_, ?_⟩, fun _ => beq_iff_eq, fun _ => beq_iff_eq, fun _ => beq_iff_eq, rfl, rfl⟩
  · exact exec_decode_encode_congr (exec_init_data data 0 s)
  · exact exec_decode_encode_congr (exec_final_data data 0 s)
  · exact exec_decode_encode_congr (exec_rsvd_data data 0 s)

end Sys2Proof
end

section
/-! SUPPORT. The padding micro-steps, each as its whole next state, and the padded stream: its length, the number of its
blocks and each byte of it (R80 to R82, R85, R86). -/

namespace Sys2Proof.Machine

/-! ### PADZ and PADL -/

/-- Settles O28: PADZ appends a zero byte, which completes the block at CNT = 63 and nowhere else. -/
theorem padzAppendsZeroByte : Obligations.PadzAppendsZeroByte := by
  intro s hs h56
  rw [exec_padz s hs h56]
  refine ⟨fun h63 => ?_, fun h63 => ?_⟩
  · rw [appendByte_last _ s h63, h63]; rfl
  · rw [appendByte_inner _ s h63]; rfl

/-- The number stored at 56 is LEN, so its byte k is LEN[8k+7:8k] (R45, R86). -/
theorem ofNat_div_pow_eq_extractLsb' {w : Nat} (x : BitVec w) (k : Nat) :
    BitVec.ofNat 8 (x.toNat / 2 ^ (8 * k)) = x.extractLsb' (8 * k) 8 := by
  rw [← Nat.shiftRight_eq_div_pow]; rfl

theorem bufRead_padlEffect_length (s : State) (k : Nat) (hk : k < 8) :
    bufRead (padlEffect s).BUF (BitVec.ofNat 6 (56 + k)) = .ok (s.LEN.extractLsb' (8 * k) 8) := by
  rw [← ofNat_div_pow_eq_extractLsb']
  exact bufRead_memWrite_inside s.BUF 56 8 s.LEN.toNat k (by decide) hk

/-- Settles O29: PADL's effect is the length field and the block start, and the field reads back byte by byte. -/
theorem padlAppendsLengthField : Obligations.PadlAppendsLengthField := by
  intro s hs hc
  exact ⟨padlEffect s, exec_padl s hs hc, rfl, bufRead_padlEffect_length s⟩

/-- PADL has its effect, or is not selected and changes nothing. -/
theorem exec_padl_next {s t : State} (h : exec .padl s = .next t) : t = padlEffect s ∨ t = s := by
  simp only [exec, execPadl] at h
  cases hsel : (s.SEQ == .pad && s.CNT == 56) <;> rw [hsel] at h <;> cases h
  · exact .inr rfl
  · exact .inl rfl

/-- Settles O31: the length field begins at 56, and starting a block writes only AA..DD, T and SEQ. -/
theorem lengthFieldFrame : Obligations.LengthFieldFrame := by
  intro s t h
  obtain rfl | rfl := exec_padl_next h
  · refine ⟨fun a ha => ?_, rfl, rfl, rfl, rfl, rfl, rfl, rfl, rfl, rfl⟩
    by_contra hne
    exact absurd (le_of_bufRead_padlEffect_ne hne) (Nat.not_le.mpr ha)
  · exact ⟨fun _ _ => rfl, rfl, rfl, rfl, rfl, rfl, rfl, rfl, rfl, rfl⟩

/-! ### The padded stream (R80, R81) -/

theorem pad_length (m : List Byte) : (pad m).length = m.length + 1 + padZeros m.length + 8 := by
  simp only [pad, List.length_append, List.length_singleton, List.length_replicate, le64_length]

/-- The padded stream is a whole number of blocks (R81). -/
theorem pad_length_eq_blocks (m : List Byte) : (pad m).length = 64 * numBlocks m.length := by
  have := padZeros_spec m.length
  rw [pad_length, numBlocks]; omega

theorem pad_take (m : List Byte) : (pad m).take m.length = m := by
  simp [pad, List.append_assoc]

theorem pad_getElem?_message (m : List Byte) (k : Nat) (hk : k < m.length) : (pad m)[k]? = m[k]? := by
  simp [pad, List.append_assoc, List.getElem?_append_left hk]

/-- What follows the message in the padded stream (R80). -/
theorem pad_getElem?_after (m : List Byte) (k : Nat) :
    (pad m)[m.length + k]? =
      (0x80 :: (List.replicate (padZeros m.length) 0x00 ++ le64 (BitVec.ofNat 64 (8 * m.length))))[k]? := by
  simp [pad, List.append_assoc, List.getElem?_append_right]

theorem pad_getElem?_marker (m : List Byte) : (pad m)[m.length]? = some 0x80 := pad_getElem?_after m 0

theorem pad_getElem?_zero (m : List Byte) (k : Nat) (hm : m.length < k) (hk : k + 8 < (pad m).length) :
    (pad m)[k]? = some 0x00 := by
  rw [pad_length] at hk
  obtain ⟨j, rfl⟩ := Nat.exists_eq_add_of_lt hm
  have hj : j < padZeros m.length := by omega
  rw [Nat.add_assoc, pad_getElem?_after, List.getElem?_cons_succ, List.getElem?_append_left (by simpa using hj)]
  simp [hj]

theorem le64_getElem? (w : BitVec 64) (k : Nat) (hk : k < 8) : (le64 w)[k]? = some (w.extractLsb' (8 * k) 8) := by
  interval_cases k <;> rfl

theorem pad_getElem?_length (m : List Byte) (k : Nat) (hk : k < 8) :
    (pad m)[(pad m).length - 8 + k]? = some ((BitVec.ofNat 64 (8 * m.length)).extractLsb' (8 * k) 8) := by
  have hat : (pad m).length - 8 + k = m.length + (padZeros m.length + k + 1) := by rw [pad_length]; omega
  rw [hat, pad_getElem?_after, List.getElem?_cons_succ, List.getElem?_append_right (by simp), ← le64_getElem? _ k hk]
  simp

/-- Settles O50: the length by the zeros R80 counts, the contents part by part of the stream. -/
theorem paddedStreamShape : Obligations.PaddedStreamShape := by
  intro m
  have hblocks := pad_length_eq_blocks m
  have hcount : numBlocks m.length = (m.length + 8) / 64 + 1 := rfl
  exact ⟨hblocks, pad_length m, hcount, by omega, by omega, by omega, fun q hq => by omega, pad_take m,
    pad_getElem?_marker m, pad_getElem?_zero m, pad_getElem?_length m⟩

end Sys2Proof.Machine
end

section
/-! SUPPORT. What FINAL starts: from each of its micro-steps the block being filled is a block of the padded message, and
a run of the engine is put together from stretches of which it is known where in them blocks start (R87, R133 to R135). -/

namespace Sys2Proof.Machine

/-! ### Runs and the places where blocks start in them -/

/-- A run of n steps from s to t, in which a block starts, before t, at step numbers in A only. -/
structure RunStarting (A : Nat → Prop) (n : Nat) (s t : State) : Prop where
  run : Host.Core.run core n s = .next t
  starts : ∀ k < n, ∃ v, Host.Core.run core k s = .next v ∧ (v.SEQ = .op → v.T = 0 → A k)

theorem RunStarting.refl (A : Nat → Prop) (s : State) : RunStarting A 0 s s :=
  ⟨rfl, fun _ hk => absurd hk (Nat.not_lt_zero _)⟩

theorem RunStarting.single {A : Nat → Prop} {s t : State} (ht : step s = .next t)
    (hA : s.SEQ = .op → s.T = 0 → A 0) : RunStarting A 1 s t :=
  ⟨run_succ 0 s t ht, fun k hk => by
    obtain rfl : k = 0 := by omega
    exact ⟨s, rfl, hA⟩⟩

/-- Where no operation is next, no block starts. -/
theorem RunStarting.single_of_ne_op {A : Nat → Prop} {s t : State} (ht : step s = .next t) (hs : s.SEQ ≠ .op) :
    RunStarting A 1 s t := .single ht fun hop => absurd hop hs

/-- Two stretches, one after the other. -/
theorem RunStarting.append {A B C : Nat → Prop} {n k : Nat} {s t u : State} (hst : RunStarting A n s t)
    (htu : RunStarting B k t u) (hA : ∀ j, A j → C j) (hB : ∀ j, B j → C (n + j)) : RunStarting C (n + k) s u where
  run := (run_add n k s t hst.run).trans htu.run
  starts j hj := by
    by_cases hjn : j < n
    · obtain ⟨v, hv, hs⟩ := hst.starts j hjn
      exact ⟨v, hv, fun h0 h1 => hA j (hs h0 h1)⟩
    · obtain ⟨i, rfl⟩ := Nat.exists_eq_add_of_le (Nat.not_lt.mp hjn)
      obtain ⟨v, hv, hs⟩ := htu.starts i (by omega)
      exact ⟨v, (run_add n i s t hst.run).trans hv, fun h0 h1 => hB i (hs h0 h1)⟩

/-- A run that ends where no operation is next starts no block at its end either. -/
theorem RunStarting.upTo {A : Nat → Prop} {n : Nat} {s t : State} (h : RunStarting A n s t) (ht : t.SEQ ≠ .op) :
    ∀ k ≤ n, ∃ v, Host.Core.run core k s = .next v ∧ (v.SEQ = .op → v.T = 0 → A k) := by
  intro k hk
  rcases Nat.lt_or_eq_of_le hk with hlt | rfl
  · exact h.starts k hlt
  · exact ⟨t, h.run, fun hop => absurd hop ht⟩

/-! ### The bytes of a block (R82) -/

theorem block_getD (m : List Byte) (q k : Nat) (hk : k < 64) : (block m q).getD k 0 = ((pad m)[64 * q + k]?).getD 0 := by
  rw [List.getD_eq_getElem?_getD, block, List.getElem?_take_of_lt hk, List.getElem?_drop]

theorem block_getD_message (m : List Byte) (q k : Nat) (hk : k < 64) (hm : 64 * q + k < m.length) :
    (block m q).getD k 0 = m.getD (64 * q + k) 0 := by
  rw [block_getD m q k hk, pad_getElem?_message m _ hm, List.getD_eq_getElem?_getD]

theorem block_getD_marker (m : List Byte) (q k : Nat) (hk : k < 64) (hm : 64 * q + k = m.length) :
    (block m q).getD k 0 = 0x80 := by
  rw [block_getD m q k hk, hm, pad_getElem?_marker]; rfl

theorem block_getD_zero (m : List Byte) (q k : Nat) (hk : k < 64) (hm : m.length < 64 * q + k)
    (hroom : 64 * q + k + 8 < 64 * numBlocks m.length) : (block m q).getD k 0 = 0x00 := by
  rw [← pad_length_eq_blocks] at hroom
  rw [block_getD m q k hk, pad_getElem?_zero m _ hm hroom]; rfl

theorem block_getD_length (m : List Byte) (q k : Nat) (hk : k < 8) (hq : q + 1 = numBlocks m.length) :
    (block m q).getD (56 + k) 0 = (BitVec.ofNat 64 (8 * m.length)).extractLsb' (8 * k) 8 := by
  have hat : 64 * q + (56 + k) = (pad m).length - 8 + k := by rw [pad_length_eq_blocks, ← hq]; omega
  rw [block_getD m q _ (by omega), hat, pad_getElem?_length m k hk]; rfl

/-! ### The engine while it finishes a computation -/

/-- What holds from FINAL until the last chaining step: no Reset is coming, FIN is set and LEN counts the message m. -/
structure Finalizing (m : List Byte) (s : State) : Prop where
  noReset : Safety.NoReset s
  fin : s.FIN = true
  length : s.LEN = BitVec.ofNat 64 (8 * m.length)

/-- BUF holds the first n bytes of BLOCK(m, q). -/
def HoldsBlock (m : List Byte) (q n : Nat) (s : State) : Prop :=
  ∀ k < n, Memory.lookup s.BUF k = some ((block m q).getD k 0)

/-- BLOCK(m, q) is being filled: the bytes below CNT are in place (R85, R86). -/
structure Padding (m : List Byte) (q : Nat) (s : State) : Prop extends Finalizing m s where
  seq : s.SEQ = .pad
  notLast : s.LAST = false
  filled : HoldsBlock m q s.CNT.toNat s

/-- BLOCK(m, q) is whole in BUF and is being compressed. -/
structure Compressing (m : List Byte) (q : Nat) (last : Bool) (s : State) : Prop extends Finalizing m s where
  seq : s.SEQ = .op
  isLast : s.LAST = last
  count : s.CNT = 0
  filled : HoldsBlock m q 64 s

/-- The chaining step of a block is next. -/
structure Chaining (m : List Byte) (last : Bool) (s : State) : Prop extends Finalizing m s where
  seq : s.SEQ = .chain
  isLast : s.LAST = last
  count : s.CNT = 0

theorem noReset_input {s : State} (h : Safety.NoReset s) : s.input.reset = false := by
  unfold State.input
  cases hp : s.PORT with
  | nil => rfl
  | cons p rest => exact h p (by simp [hp])

theorem noReset_shiftInput {s : State} (h : Safety.NoReset s) : Safety.NoReset s.shiftInput :=
  fun p hp => h p (List.mem_of_mem_tail hp)

theorem Finalizing.of_fields_eq {m : List Byte} {s t : State} (h : Finalizing m s) (hPORT : t.PORT = s.PORT)
    (hFIN : t.FIN = s.FIN) (hLEN : t.LEN = s.LEN) : Finalizing m t :=
  ⟨fun p hp => h.noReset p (hPORT ▸ hp), hFIN.trans h.fin, hLEN.trans h.length⟩

theorem Finalizing.shiftInput {m : List Byte} {s : State} (h : Finalizing m s) : Finalizing m s.shiftInput :=
  ⟨noReset_shiftInput h.noReset, h.fin, h.length⟩

theorem Chaining.shiftInput {m : List Byte} {last : Bool} {s : State} (h : Chaining m last s) :
    Chaining m last s.shiftInput :=
  { h.toFinalizing.shiftInput with seq := h.seq, isLast := h.isLast, count := h.count }

theorem Padding.shiftInput {m : List Byte} {q : Nat} {s : State} (h : Padding m q s) : Padding m q s.shiftInput :=
  { h.toFinalizing.shiftInput with seq := h.seq, notLast := h.notLast, filled := h.filled }

/-! ### Filling a block (R85, R86) -/

theorem bufIndex_succ_toNat {i : BitVec 6} (h : i ≠ 63) : (i + 1).toNat = i.toNat + 1 := by
  have : i.toNat ≠ 63 := fun e => h (BitVec.eq_of_toNat_eq e)
  rw [BitVec.toNat_add_of_lt (show i.toNat + 1 < 64 by have := i.isLt; omega)]; rfl

/-- The next byte of the block, appended. -/
theorem Padding.holdsBlock_appendByte {m : List Byte} {q : Nat} {s : State} (h : Padding m q s) (v : Byte)
    (hv : v = (block m q).getD s.CNT.toNat 0) : HoldsBlock m q (s.CNT.toNat + 1) (appendByte v s) := by
  intro k hk
  rw [appendByte_BUF, bufWrite, Memory.lookup_insert]
  split
  · rw [hv, ‹k = _›]
  · exact h.filled k (by omega)

theorem Padding.appendByte_inner {m : List Byte} {q : Nat} {s : State} (h : Padding m q s) (v : Byte)
    (hv : v = (block m q).getD s.CNT.toNat 0) (h63 : s.CNT ≠ 63) : Padding m q (appendByte v s) :=
  { h.toFinalizing.of_fields_eq (appendByte_PORT v s) (appendByte_FIN v s) (appendByte_LEN v s) with
    seq := by rw [appendByte_SEQ, if_neg h63, h.seq]
    notLast := by rw [appendByte_LAST, h.notLast]
    filled := by rw [appendByte_CNT, bufIndex_succ_toNat h63]; exact h.holdsBlock_appendByte v hv }

theorem Padding.appendByte_last {m : List Byte} {q : Nat} {s : State} (h : Padding m q s) (v : Byte)
    (hv : v = (block m q).getD s.CNT.toNat 0) (h63 : s.CNT = 63) :
    Compressing m q false (appendByte v s) ∧ (appendByte v s).T = 0 := by
  refine ⟨{ h.toFinalizing.of_fields_eq (appendByte_PORT v s) (appendByte_FIN v s) (appendByte_LEN v s) with
    seq := by rw [appendByte_SEQ, if_pos h63]
    isLast := by rw [appendByte_LAST, h.notLast]
    count := by rw [appendByte_CNT, h63]; rfl
    filled := ?_ }, by rw [appendByte_T, if_pos h63]⟩
  have := h.holdsBlock_appendByte v hv
  rwa [h63] at this

theorem Padding.compressing_padlEffect {m : List Byte} {q : Nat} {s : State} (h : Padding m q s) (hc : s.CNT = 56)
    (hq : q + 1 = numBlocks m.length) : Compressing m q true (padlEffect s) :=
  { h.toFinalizing.of_fields_eq rfl rfl rfl with
    seq := rfl
    isLast := rfl
    count := rfl
    filled := fun k hk => by
      by_cases hlow : k < 56
      · rw [padlEffect, startBlock_BUF, lookup_memWrite _ _ _ _ _ (by decide),
          if_neg fun hin => absurd hin.1 (Nat.not_le.mpr hlow)]
        exact h.filled k (by rw [hc]; exact hlow)
      · obtain ⟨j, rfl⟩ := Nat.exists_eq_add_of_le (Nat.not_lt.mp hlow)
        rw [← bufRead_ofNat_eq_ok _ _ _ hk, bufRead_padlEffect_length s j (by omega), h.length,
          block_getD_length m q j (by omega) hq] }

/-- A run of PADZ steps that meets neither 56 nor the end of the block. -/
theorem Padding.run_zeros {m : List Byte} {q n : Nat} {s : State} (h : Padding m q s) (hm : m.length < 64 * q + s.CNT.toNat)
    (hend : s.CNT.toNat + n ≤ 63) (h56 : s.CNT.toNat + n ≤ 56 ∨ 57 ≤ s.CNT.toNat)
    (hroom : 64 * q + s.CNT.toNat + n + 8 ≤ 64 * numBlocks m.length) :
    ∃ t, RunStarting (fun _ => False) n s t ∧ Padding m q t ∧ t.CNT.toNat = s.CNT.toNat + n := by
  induction n generalizing s with
  | zero => exact ⟨s, .refl _ s, h, rfl⟩
  | succ n ih =>
    have hne56 : s.CNT ≠ 56 := fun e => by simp [e] at h56
    have hne63 : s.CNT ≠ 63 := fun e => by simp [e] at hend
    have hpad : Padding m q (appendByte 0x00 s.shiftInput) :=
      h.shiftInput.appendByte_inner 0x00 (block_getD_zero m q s.CNT.toNat s.CNT.isLt hm (by omega)).symm hne63
    have hcnt : (appendByte 0x00 s.shiftInput).CNT.toNat = s.CNT.toNat + 1 := by
      rw [appendByte_CNT]; exact bufIndex_succ_toNat hne63
    obtain ⟨t, hrun, hpad', hcnt'⟩ := ih hpad (by omega) (by omega) (by omega) (by omega)
    have hfirst : RunStarting (fun _ => False) 1 s _ :=
      .single_of_ne_op (step_padz s (noReset_input h.noReset) h.seq hne56) (by simp [h.seq])
    rw [Nat.add_comm n 1]
    exact ⟨t, hfirst.append hrun (fun _ => id) (fun _ => id), hpad', by omega⟩

/-- The steps that complete the last block: zeros up to 56, then the length field. -/
theorem Padding.run_to_last {m : List Byte} {q n : Nat} {s : State} (h : Padding m q s)
    (hm : m.length < 64 * q + s.CNT.toNat) (hn : s.CNT.toNat + n = 56) (hq : q + 1 = numBlocks m.length) :
    ∃ t, RunStarting (fun _ => False) (n + 1) s t ∧ Compressing m q true t ∧ t.T = 0 := by
  obtain ⟨t, hrun, hpad, hcnt⟩ := h.run_zeros (n := n) hm (by omega) (by omega) (by omega)
  have h56 : t.CNT = 56 := BitVec.eq_of_toNat_eq (hcnt.trans hn)
  have hlast : RunStarting (fun _ => False) 1 t _ :=
    .single_of_ne_op (step_padl t (noReset_input hpad.noReset) hpad.seq h56) (by simp [hpad.seq])
  exact ⟨_, hrun.append hlast (fun _ => id) (fun _ => id), hpad.shiftInput.compressing_padlEffect h56 hq, rfl⟩

/-- The steps that complete a block without room for the length field: zeros to its end. -/
theorem Padding.run_to_full {m : List Byte} {q n : Nat} {s : State} (h : Padding m q s)
    (hm : m.length < 64 * q + s.CNT.toNat) (hc : 57 ≤ s.CNT.toNat) (hn : s.CNT.toNat + n = 63)
    (hq : q + 1 < numBlocks m.length) :
    ∃ t, RunStarting (fun _ => False) (n + 1) s t ∧ Compressing m q false t ∧ t.T = 0 := by
  obtain ⟨t, hrun, hpad, hcnt⟩ := h.run_zeros (n := n) hm (by omega) (by omega) (by omega)
  have h63 : t.CNT = 63 := BitVec.eq_of_toNat_eq (hcnt.trans hn)
  have hzero : (block m q).getD t.CNT.toNat 0 = 0x00 := block_getD_zero m q _ t.CNT.isLt (by omega) (by omega)
  have hlast : RunStarting (fun _ => False) 1 t _ :=
    .single_of_ne_op (step_padz t (noReset_input hpad.noReset) hpad.seq (by simp [h63])) (by simp [hpad.seq])
  exact ⟨_, hrun.append hlast (fun _ => id) (fun _ => id), hpad.shiftInput.appendByte_last 0x00 hzero.symm h63⟩

/-! ### Compressing a block (R103 to R109) -/

/-- An operation of the block: it reads its word, and T counts on, or the chaining step comes next (R107). -/
theorem Compressing.exists_step {m : List Byte} {q : Nat} {last : Bool} {s : State} (h : Compressing m q last s) :
    ∃ t, step s = .next t ∧
      (s.T = 63 → Chaining m last t) ∧ (s.T ≠ 63 → Compressing m q last t ∧ t.T = s.T + 1) := by
  obtain ⟨w, hw⟩ := M_isOk s.BUF (g s.T) fun k hk => Option.isSome_of_eq_some (h.filled k hk)
  refine ⟨_, (step_op s (noReset_input h.noReset) h.seq).trans (execOp_ok _ _ _ s.shiftInput w h.seq rfl hw), ?_, ?_⟩
  all_goals
    intro hT
    have hfin : Finalizing m (opResult (NL s.T s.B s.C s.D) w s.T s.shiftInput) :=
      h.toFinalizing.shiftInput.of_fields_eq (opResult_PORT ..) (opResult_FIN ..) (opResult_LEN ..)
  · exact { hfin with
      seq := by rw [opResult_SEQ, if_pos hT]
      isLast := by rw [opResult_LAST]; exact h.isLast
      count := by rw [opResult_CNT]; exact h.count }
  · exact ⟨{ hfin with
      seq := by rw [opResult_SEQ, if_neg hT]; exact h.seq
      isLast := by rw [opResult_LAST]; exact h.isLast
      count := by rw [opResult_CNT]; exact h.count
      filled := by intro k hk; rw [opResult_BUF]; exact h.filled k hk }, by rw [opResult_T, if_neg hT]⟩

/-- The operation at T and the n after it; only the first of a block starts it. -/
theorem Compressing.run_ops {m : List Byte} {q n : Nat} {last : Bool} {s : State} (h : Compressing m q last s)
    (hn : s.T.toNat + n = 63) :
    ∃ t, RunStarting (fun k => s.T.toNat + k = 0) (1 + n) s t ∧ Chaining m last t := by
  induction n generalizing s with
  | zero =>
    obtain ⟨t, ht, hchain, -⟩ := h.exists_step
    exact ⟨t, .single ht fun _ h0 => by simp [h0], hchain (BitVec.eq_of_toNat_eq hn)⟩
  | succ n ih =>
    have hT : s.T ≠ 63 := fun e => by simp [e] at hn
    obtain ⟨t, ht, -, hnext⟩ := h.exists_step
    obtain ⟨hcomp, hTt⟩ := hnext hT
    have hTn : t.T.toNat = s.T.toNat + 1 := by rw [hTt]; exact bufIndex_succ_toNat hT
    obtain ⟨u, hrun, hchain⟩ := ih hcomp (by omega)
    have hfirst : RunStarting (fun k => s.T.toNat + k = 0) 1 s t := .single ht fun _ h0 => by simp [h0]
    rw [Nat.add_comm n 1]
    exact ⟨u, hfirst.append hrun (fun _ => id) (fun j hj => by omega), hchain⟩

/-- A whole block: its 64 operations and the chaining step, without another block start. -/
theorem Compressing.run_block {m : List Byte} {q : Nat} {last : Bool} {s : State} (h : Compressing m q last s)
    (hT : s.T = 0) : ∃ t w, RunStarting (· = 0) 65 s (afterChain (t.withQuad w)) ∧ Chaining m last t := by
  obtain ⟨t, hrun, hchain⟩ := h.run_ops (n := 63) (by simp [hT])
  have hlast : RunStarting (fun _ => False) 1 t _ :=
    .single_of_ne_op (step_chain t (noReset_input hchain.noReset) hchain.seq) (by simp [hchain.seq])
  exact ⟨t.shiftInput, _, hrun.append hlast (fun j hj => by omega) (fun _ => False.elim), hchain.shiftInput⟩

/-- The chaining step of the last block finishes the computation (R109). -/
theorem Chaining.afterChain_done {m : List Byte} {s : State} (h : Chaining m true s) (w : Quad) :
    (afterChain (s.withQuad w)).SEQ = .ready ∧ (afterChain (s.withQuad w)).PHASE = .done := by
  simp [afterChain_SEQ, afterChain_PHASE, h.fin, h.isLast]

/-- After a block without the length field the next block is filled from its beginning (R109). -/
theorem Chaining.afterChain_padding {m : List Byte} {s : State} (h : Chaining m false s) (w : Quad) (q : Nat) :
    Padding m q (afterChain (s.withQuad w)) ∧ (afterChain (s.withQuad w)).CNT = 0 := by
  have hcnt : (afterChain (s.withQuad w)).CNT = 0 := by rw [afterChain_CNT]; exact h.count
  have hfin : Finalizing m (afterChain (s.withQuad w)) :=
    h.toFinalizing.of_fields_eq (afterChain_PORT _) (by simp [afterChain_FIN, h.isLast]) (afterChain_LEN _)
  exact ⟨{ hfin with
    seq := by simp [afterChain_SEQ, h.fin, h.isLast]
    notLast := by simp [afterChain_LAST, h.isLast]
    filled := fun k hk => absurd hk (by rw [hcnt]; exact Nat.not_lt_zero k) }, hcnt⟩

theorem Compressing.bufRead_eq {m : List Byte} {q : Nat} {last : Bool} {s : State} (h : Compressing m q last s)
    (k : BitVec 6) : bufRead s.BUF k = .ok ((block m q).getD k.toNat 0) :=
  (bufRead_eq_ok _ _ _).mpr (h.filled k.toNat k.isLt)

/-- From a block with room for the length field: the block is completed, and after it the engine is done. -/
theorem Padding.finishes {m : List Byte} {q n : Nat} {s : State} (h : Padding m q s) (hm : m.length < 64 * q + s.CNT.toNat)
    (hn : s.CNT.toNat + n = 56) (hq : q + 1 = numBlocks m.length) :
    ∃ t u, RunStarting (fun _ => False) (n + 1) s t ∧ Compressing m q true t ∧ t.T = 0 ∧
      RunStarting (· = 0) 65 t u ∧ u.SEQ = .ready ∧ u.PHASE = .done := by
  obtain ⟨t, hfill, hcomp, hT⟩ := h.run_to_last hm hn hq
  obtain ⟨u, w, hrun, hchain⟩ := hcomp.run_block hT
  exact ⟨t, _, hfill, hcomp, hT, hrun, hchain.afterChain_done w⟩

/-! ### From FINAL on (R87, R133) -/

/-- The state that the message m leaves, with no Reset coming (R138). -/
structure Absorbed (m : List Byte) (s : State) : Prop where
  noReset : Safety.NoReset s
  seq : s.SEQ = .ready
  phase : s.PHASE = .absorb
  length : s.LEN = BitVec.ofNat 64 (8 * m.length)
  count : s.CNT = BitVec.ofNat 6 m.length
  bytes : ∀ k < m.length % 64,
    bufRead s.BUF (BitVec.ofNat 6 k) = .ok (m.getD (m.length - m.length % 64 + k) 0)

/-- What FINAL sets before it appends its byte. -/
def markFinal (s : State) : State := { s with FIN := true, LAST := false, SEQ := .pad }

theorem Absorbed.count_toNat {m : List Byte} {s : State} (h : Absorbed m s) : s.CNT.toNat = m.length % 64 := by
  rw [h.count, BitVec.toNat_ofNat]

theorem Absorbed.finalEffect_eq {m : List Byte} {s : State} (h : Absorbed m s) :
    finalEffect s = appendByte 0x80 (markFinal s) := finalEffect_absorb s h.phase

/-- The bytes of m beyond its whole blocks are the beginning of the next block. -/
theorem Absorbed.padding_markFinal {m : List Byte} {s : State} (h : Absorbed m s) :
    Padding m (m.length / 64) (markFinal s) where
  noReset := h.noReset
  fin := rfl
  length := h.length
  seq := rfl
  notLast := rfl
  filled k hk := by
    have hk : k < m.length % 64 := h.count_toNat ▸ hk
    have hat : m.length - m.length % 64 + k = 64 * (m.length / 64) + k := by omega
    rw [block_getD_message m _ k (by omega) (by omega), ← hat]
    exact (bufRead_ofNat_eq_ok _ _ _ (by omega)).mp (h.bytes k hk)

theorem Absorbed.block_getD_count {m : List Byte} {s : State} (h : Absorbed m s) :
    (block m (m.length / 64)).getD (markFinal s).CNT.toNat 0 = 0x80 := by
  have hc : (markFinal s).CNT.toNat = m.length % 64 := h.count_toNat
  exact block_getD_marker m _ _ (by omega) (by omega)

theorem Absorbed.final_inner {m : List Byte} {s : State} (h : Absorbed m s) (hc : m.length % 64 ≠ 63) :
    Padding m (m.length / 64) (finalEffect s) ∧ (finalEffect s).CNT.toNat = m.length % 64 + 1 := by
  have h63 : s.CNT ≠ 63 := fun e => hc (by rw [← h.count_toNat, e]; rfl)
  rw [h.finalEffect_eq]
  refine ⟨h.padding_markFinal.appendByte_inner 0x80 h.block_getD_count.symm h63, ?_⟩
  rw [appendByte_CNT, ← h.count_toNat]
  exact bufIndex_succ_toNat h63

theorem Absorbed.final_last {m : List Byte} {s : State} (h : Absorbed m s) (hc : m.length % 64 = 63) :
    Compressing m (m.length / 64) false (finalEffect s) ∧ (finalEffect s).T = 0 := by
  have h63 : s.CNT = 63 := BitVec.eq_of_toNat_eq (h.count_toNat.trans hc)
  rw [h.finalEffect_eq]
  exact h.padding_markFinal.appendByte_last 0x80 h.block_getD_count.symm h63

/-- A message whose last bytes leave no room for the length field: their block is completed with zeros. -/
theorem Absorbed.completes_block {m : List Byte} {s : State} (h : Absorbed m s) (hc : 56 ≤ m.length % 64) :
    ∃ t, RunStarting (fun _ => False) (63 - m.length % 64) (finalEffect s) t ∧
      Compressing m (m.length / 64) false t ∧ t.T = 0 := by
  by_cases h63 : m.length % 64 = 63
  · rw [h63]
    exact ⟨_, .refl _ _, h.final_last h63⟩
  · obtain ⟨hpad, hcnt⟩ := h.final_inner h63
    have hn : 63 - m.length % 64 = 62 - m.length % 64 + 1 := by omega
    rw [hn]
    exact hpad.run_to_full (by omega) (by omega) (by omega) (by unfold numBlocks; omega)

/-- Settles O54: FINAL leaves the marker in place, the padding steps complete BLOCK(m, n / 64), and, where that block has no
room for the length field, the next one after it; each stretch of the run starts a block at its end only. -/
theorem finalizationCompressesPaddedBlocks : Obligations.FinalizationCompressesPaddedBlocks := by
  intro data m s u hreset hseq hphase hlen hcount hbytes hu c holds
  have h : Absorbed m s := ⟨hreset, hseq, hphase, hlen, hcount, hbytes⟩
  have holds_of {q : Nat} {last : Bool} {t : State} (ht : Compressing m q last t) (hT : t.T = 0) : holds q t :=
    ⟨ht.seq, hT, ht.bufRead_eq⟩
  obtain rfl : finalEffect s = u := by rw [exec_final data s hseq] at hu; cases hu; rfl
  refine ⟨fun hc => ?_, fun hc => ?_⟩
  · have hblocks : numBlocks m.length = m.length / 64 + 1 := by unfold numBlocks; omega
    obtain ⟨hpad, hcnt⟩ := h.final_inner (by omega)
    obtain ⟨t, v, hfill, hcomp, hT, hrun, hready, hdone⟩ := hpad.finishes (n := 55 - c) (by omega) (by omega) hblocks.symm
    have hn : 55 - c + 1 = 56 - c := by omega
    rw [hn] at hfill
    have hall : RunStarting (· = 56 - c) (56 - c + 65) (finalEffect s) v :=
      hfill.append hrun (fun _ => False.elim) (fun j hj => by omega)
    exact ⟨⟨t, hfill.run, holds_of hcomp hT, hcomp.isLast⟩, ⟨v, hall.run, hready, hdone⟩,
      hall.upTo (by simp [hready]), hblocks⟩
  · have hblocks : numBlocks m.length = m.length / 64 + 2 := by unfold numBlocks; omega
    obtain ⟨t, hfill, hcomp, hT⟩ := h.completes_block hc
    obtain ⟨v, w, hrun, hchain⟩ := hcomp.run_block hT
    obtain ⟨hpad, hcnt⟩ := hchain.afterChain_padding w (m.length / 64 + 1)
    obtain ⟨t', v', hfill', hcomp', hT', hrun', hready, hdone⟩ :=
      hpad.finishes (n := 56) (by omega) (by rw [hcnt]; rfl) hblocks.symm
    have hfirst : RunStarting (· = 63 - c) (63 - c + 65) (finalEffect s) _ :=
      hfill.append hrun (fun _ => False.elim) (fun j hj => by omega)
    have hsecond : RunStarting (· = 63 - c) (63 - c + 65 + 57) (finalEffect s) t' :=
      hfirst.append hfill' (fun _ => id) (fun _ => False.elim)
    have hall : RunStarting (fun n => n = 63 - c ∨ n = 63 - c + 65 + 57) (63 - c + 65 + 57 + 65) (finalEffect s) v' :=
      hsecond.append hrun' (fun _ => .inl) (fun j hj => by omega)
    exact ⟨⟨t, hfill.run, holds_of hcomp hT, hcomp.isLast⟩, ⟨t', hsecond.run, holds_of hcomp' hT', hcomp'.isLast⟩,
      ⟨v', hall.run, hready, hdone⟩, hall.upTo (by simp [hready]), hblocks⟩

end Sys2Proof.Machine
end

section
/-! SUPPORT. The pure functions of an operation bit by bit (R92 to R95, R100), and the in-place formulation of the compression
as the moving one with its roles renamed (R111). -/

namespace Sys2Proof.Machine

/-! ### The nonlinear functions (R92 to R95) -/

theorem getLsbD_F (x y z : Word) (k : Nat) (hk : k < 32) :
    (F x y z).getLsbD k = if x.getLsbD k then y.getLsbD k else z.getLsbD k := by
  simp only [F, BitVec.getLsbD_or, BitVec.getLsbD_and, BitVec.getLsbD_not, hk]
  cases x.getLsbD k <;> simp

theorem getLsbD_G (x y z : Word) (k : Nat) (hk : k < 32) :
    (G x y z).getLsbD k = if z.getLsbD k then x.getLsbD k else y.getLsbD k := by
  simp only [G, BitVec.getLsbD_or, BitVec.getLsbD_and, BitVec.getLsbD_not, hk]
  cases z.getLsbD k <;> simp

theorem getLsbD_H (x y z : Word) (k : Nat) :
    (H x y z).getLsbD k = (x.getLsbD k ^^ y.getLsbD k ^^ z.getLsbD k) := by
  simp [H]

theorem getLsbD_I (x y z : Word) (k : Nat) (hk : k < 32) :
    (I x y z).getLsbD k = (y.getLsbD k ^^ (x.getLsbD k || !z.getLsbD k)) := by
  simp [I, hk]

/-- Settles O44: the combinations are the definitions, and the bit operations act on each bit alone. -/
theorem nonlinearFunctionsPerBit : Obligations.NonlinearFunctionsPerBit := fun x y z =>
  ⟨rfl, rfl, rfl, rfl, fun k hk =>
    ⟨getLsbD_F x y z k hk, getLsbD_G x y z k hk, getLsbD_H x y z k, getLsbD_I x y z k hk⟩⟩

/-! ### The rotation (R100) -/

/-- The bits moved up and those re-entering at the bottom do not overlap, so their union is their sum. -/
theorem toNat_rotl32 (x : Word) (n : Nat) (h : n < 32) :
    (rotl32 x n).toNat = x.toNat * 2 ^ n % 2 ^ 32 + x.toNat / 2 ^ (32 - n) := by
  have hpow : 2 ^ 32 = 2 ^ (32 - n) * 2 ^ n := by rw [← Nat.pow_add]; congr 1; omega
  have hlow : x.toNat / 2 ^ (32 - n) < 2 ^ n := Nat.div_lt_of_lt_mul (hpow ▸ x.isLt)
  have hhigh : x.toNat * 2 ^ n % 2 ^ 32 = (x.toNat % 2 ^ (32 - n)) <<< n := by
    rw [hpow, Nat.mul_mod_mul_right, Nat.shiftLeft_eq]
  rw [hhigh, Nat.shiftLeft_add_eq_or_of_lt hlow, ← hhigh]
  simp [rotl32, Nat.shiftLeft_eq, Nat.shiftRight_eq_div_pow]

/-- Bit k moves to bit (k + n) mod 32. -/
theorem getLsbD_rotl32 (x : Word) (n k : Nat) (hn : n < 32) (hk : k < 32) :
    (rotl32 x n).getLsbD ((k + n) % 32) = x.getLsbD k := by
  rw [rotl32_eq_rotateLeft x n hn, BitVec.getLsbD_rotateLeft, Nat.mod_eq_of_lt hn, Bool.cond_eq_ite]
  by_cases htop : k + n < 32
  · rw [Nat.mod_eq_of_lt htop, if_neg (by simp)]
    simp [htop]
  · have hre : (k + n) % 32 = k + n - 32 := by omega
    rw [hre, if_pos (by simp; omega)]
    congr 1; omega

/-- Settles O45: the rotation as a sum and by its bits; the amounts are those of the printed schedule. -/
theorem rotationMovesBits : Obligations.RotationMovesBits := by
  have hrange : ∀ row ∈ schedule, 4 ≤ row.s ∧ row.s ≤ 23 := by decide
  refine ⟨fun row hrow => ?_, fun x n _ hn => ⟨toNat_rotl32 x n hn, fun k hk => getLsbD_rotl32 x n k hn hk⟩⟩
  obtain ⟨-, -, hS, -⟩ := schedule_row row hrow
  obtain ⟨hlow, hhigh⟩ := hrange row hrow
  exact ⟨hlow, hhigh, hS⟩

/-! ### The in-place formulation (R111) -/

/-- The fixed registers read in the roles they have before operation i. -/
def Quad.inRoles (p : Quad) (i : BitVec 6) : Quad :=
  ⟨p.get (roleIndex 0 i), p.get (roleIndex 1 i), p.get (roleIndex 2 i), p.get (roleIndex 3 i)⟩

theorem Quad.inRoles_zero (p : Quad) : p.inRoles 0 = p := rfl

/-- A role before the next operation is the register that has the role below it now. -/
theorem roleIndex_add_one (role : BitVec 2) (i : BitVec 6) : roleIndex role (i + 1) = roleIndex (role - 1) i := by
  have low (j : BitVec 6) : j.extractLsb' 0 2 = j.setWidth 2 := BitVec.eq_of_toNat_eq rfl
  have hlow : (i + 1).extractLsb' 0 2 = i.extractLsb' 0 2 + 1 := by
    rw [low, low, BitVec.setWidth_add _ _ (by decide)]; rfl
  unfold roleIndex
  rw [hlow, sub_add_eq_sub_sub_swap]

/-- Different roles are different registers. -/
theorem roleIndex_ne {role other : BitVec 2} (h : role ≠ other) (i : BitVec 6) : roleIndex role i ≠ roleIndex other i :=
  fun e => h (sub_left_inj.mp e)

/-- One operation in place is one moving operation, seen in the roles. -/
theorem inRoles_opstepInPlace (i : BitVec 6) (p : Quad) (words : BitVec 4 → Word) :
    (opstepInPlace i p words).inRoles (i + 1) = opstep i (p.inRoles i) words := by
  have keep {role : BitVec 2} (v : Word) (h : role ≠ 0) :
      (p.set (roleIndex 0 i) v).get (roleIndex role i) = p.get (roleIndex role i) :=
    Quad.get_set_other p _ _ v (roleIndex_ne h i)
  simp only [Quad.inRoles, roleIndex_add_one]
  exact (Quad.ext_iff' _ _).mpr
    ⟨keep (role := 3) _ (by decide), Quad.get_set_same p _ _, keep (role := 1) _ (by decide),
      keep (role := 2) _ (by decide)⟩

theorem runOps_eq_inRoles (words : BitVec 4 → Word) (w : Quad) (n : Nat) :
    runOps words w n = (runOpsInPlace words w n).inRoles (BitVec.ofNat 6 n) := by
  induction n with
  | zero => rfl
  | succ n ih => rw [runOps_succ, ih, runOpsInPlace_succ, BitVec.ofNat_add]; exact (inRoles_opstepInPlace _ _ _).symm

/-- Settles O47: the roles turn by one register with each operation, and come round after 64 of them. -/
theorem inPlaceFormulationAgrees : Obligations.InPlaceFormulationAgrees := fun words w =>
  ⟨fun n _ => runOps_eq_inRoles words w n, by
    have hturn : BitVec.ofNat 6 64 = 0 := rfl
    rw [runOps_eq_inRoles words w 64, hturn, Quad.inRoles_zero]⟩

end Sys2Proof.Machine
end

section
/-! SUPPORT. The micro-steps of the compression as whole next states: the operations by the rows of the schedule and their round
groups (R103 to R107, R113), and the chaining step by FIN and LAST (R109). -/

namespace Sys2Proof.Machine

/-! ### An operation by its row -/

/-- An enabled operation whose message word is m, with the registers and the sequencer after it (R102, R107). -/
theorem exec_row_ok {row : ScheduleRow} (hrow : row ∈ schedule) {s : State} {m : Word} (hs : s.SEQ = .op)
    (hT : s.T = row.i) (hm : M s.BUF row.g = .ok m) :
    exec row.instr s = .next { s with
      A := s.D
      B := s.B + rotl32 (s.A + NL row.i s.B s.C s.D + row.k + m) row.s
      C := s.B
      D := s.C
      T := if row.i = 63 then s.T else row.i + 1
      SEQ := if row.i = 63 then .chain else .op } := by
  obtain ⟨-, -, hS, hK⟩ := schedule_row row hrow
  rw [exec_row row hrow, execOp_ok _ _ _ _ m hs hT hm, opResult, hS, hK, sequenceOp, ← hs]
  split <;> rfl

/-! ### The four round groups -/

/-- The rows of round group r, i[5:4] = r (R65). -/
def roundGroup (r : BitVec 2) : List ScheduleRow := schedule.filter fun row => row.i.extractLsb' 4 2 = r

theorem mem_roundGroup {r : BitVec 2} {row : ScheduleRow} :
    row ∈ roundGroup r ↔ row ∈ schedule ∧ row.i.extractLsb' 4 2 = r := by
  simp [roundGroup]

theorem ffSchedule_eq_roundGroup : ffSchedule = roundGroup 0 := by decide

theorem ggSchedule_eq_roundGroup : ggSchedule = roundGroup 1 := by decide

theorem hhSchedule_eq_roundGroup : hhSchedule = roundGroup 2 := by decide

theorem iiSchedule_eq_roundGroup : iiSchedule = roundGroup 3 := by decide

theorem roundGroup_covers {r : BitVec 2} (i : BitVec 6) (hi : i.extractLsb' 4 2 = r) : ∃ row ∈ roundGroup r, row.i = i := by
  obtain ⟨row, hrow, rfl⟩ := schedule_covers i
  exact ⟨row, mem_roundGroup.mpr ⟨hrow, hi⟩, rfl⟩

/-- Only the last group holds operation 63; in the others an operation leaves SEQ and advances T. -/
theorem exec_roundGroup_ok {r : BitVec 2} (hr : r ≠ 3) {row : ScheduleRow} (h : row ∈ roundGroup r) {s : State} {m : Word}
    (hs : s.SEQ = .op) (hT : s.T = row.i) (hm : M s.BUF row.g = .ok m) :
    exec row.instr s = .next { s with
      A := s.D
      B := s.B + rotl32 (s.A + NL row.i s.B s.C s.D + row.k + m) row.s
      C := s.B
      D := s.C
      T := row.i + 1 } := by
  obtain ⟨hrow, hgroup⟩ := mem_roundGroup.mp h
  have hlast : row.i ≠ 63 := fun hi => hr (by rw [← hgroup, hi]; rfl)
  rw [exec_row_ok hrow hs hT hm, if_neg hlast, if_neg hlast, ← hs]

/-- The encoding and the columns of a group's rows, from a word-index formula and a list of amounts that its rows meet
(R65, R97 to R99, R113). -/
theorem roundGroup_columns {r : BitVec 2} {index : Nat → Nat} {amounts : List Nat}
    (hcols : ∀ row ∈ roundGroup r, row.g.toNat = index row.i.toNat ∧ row.s ∈ amounts ∧ row.k ≠ 0) :
    ∀ row ∈ roundGroup r,
      decode (.step row.i) = row.instr ∧ row.i.extractLsb' 4 2 = r ∧ row.g.toNat = index row.i.toNat ∧
      S row.i = row.s ∧ row.s ∈ amounts ∧ K row.i = row.k ∧ row.k ≠ 0 := by
  intro row h
  obtain ⟨hrow, hgroup⟩ := mem_roundGroup.mp h
  obtain ⟨hinstr, -, hS, hK⟩ := schedule_row row hrow
  obtain ⟨hg, hs, hk⟩ := hcols row h
  exact ⟨hinstr, hgroup, hg, hS, hs, hK, hk⟩

/-- Settles O21: the rows of group 0 with g(i) = i, and the operation with F. -/
theorem ffOperationResult : Obligations.FfOperationResult := by
  unfold Obligations.FfOperationResult
  obtain ⟨hNL, -, -, -⟩ := NL_group
  rw [ffSchedule_eq_roundGroup] at hNL ⊢
  refine ⟨roundGroup_columns (index := id) (by decide), roundGroup_covers, fun row h s m hs hT hm => ?_⟩
  rw [exec_roundGroup_ok (by decide) h hs hT hm, hNL row h]; rfl

/-- Settles O22: the rows of group 1 with g(i) = (5 i + 1) mod 16, and the operation with G. -/
theorem ggOperationResult : Obligations.GgOperationResult := by
  unfold Obligations.GgOperationResult
  obtain ⟨-, hNL, -, -⟩ := NL_group
  rw [ggSchedule_eq_roundGroup] at hNL ⊢
  refine ⟨roundGroup_columns (index := fun i => (5 * i + 1) % 16) (by decide), roundGroup_covers,
    fun row h s m hs hT hm => ?_⟩
  rw [exec_roundGroup_ok (by decide) h hs hT hm, hNL row h]; rfl

/-- Settles O23: the rows of group 2 with g(i) = (3 i + 5) mod 16, and the operation with H. -/
theorem hhOperationResult : Obligations.HhOperationResult := by
  unfold Obligations.HhOperationResult
  obtain ⟨-, -, hNL, -⟩ := NL_group
  rw [hhSchedule_eq_roundGroup] at hNL ⊢
  refine ⟨roundGroup_columns (index := fun i => (3 * i + 5) % 16) (by decide), roundGroup_covers,
    fun row h s m hs hT hm => ?_⟩
  rw [exec_roundGroup_ok (by decide) h hs hT hm, hNL row h]; rfl

/-- Settles O24: the rows of group 3 with g(i) = 7 i mod 16, and the operation with I, whose sequencing ends at 63. -/
theorem iiOperationResult : Obligations.IiOperationResult := by
  unfold Obligations.IiOperationResult
  obtain ⟨-, -, -, hNL⟩ := NL_group
  rw [iiSchedule_eq_roundGroup] at hNL ⊢
  refine ⟨roundGroup_columns (index := fun i => 7 * i % 16) (by decide), roundGroup_covers, fun row h s m hs hT hm => ?_⟩
  rw [exec_row_ok (mem_roundGroup.mp h).1 hs hT hm, hNL row h]; rfl

/-- Settles O25: an operation that answers was not enabled, or read its word; then it writes A..D, T and SEQ. -/
theorem operationSequencingAndFrame : Obligations.OperationSequencingAndFrame := by
  intro row hrow s t h
  rw [exec_row row hrow] at h
  obtain ⟨hdisabled, rfl⟩ | ⟨hs, hT, m, -, rfl⟩ := execOp_next _ _ _ _ _ h
  · exact ⟨fun hs hT => absurd ⟨hs, hT⟩ hdisabled, by simp⟩
  · have hseq := opResult_SEQ (NL row.i s.B s.C s.D) m row.i s
    have hnext := opResult_T (NL row.i s.B s.C s.D) m row.i s
    refine ⟨fun _ _ => ⟨fun h63 => ?_, fun h63 => ?_⟩, by simp⟩
    · rw [hseq, hnext, if_pos h63, if_pos h63]
      exact ⟨rfl, rfl⟩
    · rw [hseq, hnext, if_neg h63, if_neg h63, hT]
      exact ⟨hs, rfl⟩

/-! ### The chaining step (R109) -/

theorem afterChain_not_fin (s : State) (h : s.FIN = false) : afterChain s = { s with SEQ := .ready } := by
  rw [afterChain, if_pos h]

theorem afterChain_last (s : State) (hf : s.FIN = true) (hl : s.LAST = true) :
    afterChain s = { s with PHASE := .done, FIN := false, LAST := false, SEQ := .ready } := by
  rw [afterChain, if_neg (by simp [hf]), if_pos hl]

theorem afterChain_more (s : State) (hf : s.FIN = true) (hl : s.LAST = false) :
    afterChain s = { s with SEQ := .pad } := by
  rw [afterChain, if_neg (by simp [hf]), if_neg (by simp [hl])]

/-- Settles O27: the sum of the tuples, and then the three ways on from a block. -/
theorem chainAddsSavedCopy : Obligations.ChainAddsSavedCopy := by
  intro s hs
  rw [exec_chain s hs]
  exact ⟨fun hf => congrArg _ (afterChain_not_fin _ hf), fun hf hl => congrArg _ (afterChain_last _ hf hl),
    fun hf hl => congrArg _ (afterChain_more _ hf hl)⟩

end Sys2Proof.Machine
end

section
/-! SUPPORT. A block under compression: the state after each of its operations, written out, and the 65 steps of R110. -/

namespace Sys2Proof.Machine

/-! ### The words of the block -/

/-- The word view of a buffer that holds a block is the block's words (R41, R91). -/
theorem M_of_holds_block {buf : Memory} {blk : List Byte} (h : ∀ k : BitVec 6, bufRead buf k = .ok (blk.getD k.toNat 0))
    (j : BitVec 4) : M buf j = .ok (blockWord blk j) := by
  have hj := j.isLt
  have byte (k : Nat) (hk : k < 4) : Memory.lookup buf (4 * j.toNat + k) = some (blk.getD (4 * j.toNat + k) 0) := by
    have hlt : 4 * j.toNat + k < 64 := by omega
    rw [← bufRead_ofNat_eq_ok _ _ _ hlt, h, BitVec.toNat_ofNat, Nat.mod_eq_of_lt hlt]
  exact M_of_lookup buf j _ _ _ _ (byte 0 (by decide)) (byte 1 (by decide)) (byte 2 (by decide)) (byte 3 (by decide))

theorem Quad.add_comm (x y : Quad) : x.add y = y.add x := by
  simp [Quad.add, BitVec.add_comm]

/-! ### The operations of a block, and its chaining step -/

/-- The state n operations after the state s that a block start left: A..D run through R110, the host's inputs are used up, and
after operation 63 the chaining step is next with T still 63 (R107). -/
def afterOps (words : BitVec 4 → Word) (s : State) (n : Nat) : State :=
  { s.withQuad (runOps words s.quad n) with
    T := BitVec.ofNat 6 (min n 63), SEQ := if n = 64 then .chain else .op, PORT := s.PORT.drop n }

theorem afterOps_zero (words : BitVec 4 → Word) (s : State) (hs : s.SEQ = .op) (hT : s.T = 0) : afterOps words s 0 = s := by
  cases s; cases hs; cases hT; rfl

@[simp] theorem afterOps_quad (words : BitVec 4 → Word) (s : State) (n : Nat) :
    (afterOps words s n).quad = runOps words s.quad n := rfl

@[simp] theorem afterOps_savedQuad (words : BitVec 4 → Word) (s : State) (n : Nat) :
    (afterOps words s n).savedQuad = s.savedQuad := rfl

theorem afterOps_SEQ (words : BitVec 4 → Word) (s : State) (n : Nat) :
    (afterOps words s n).SEQ = if n = 64 then .chain else .op := rfl

theorem afterOps_succ (words : BitVec 4 → Word) (s : State) (n : Nat) :
    afterOps words s (n + 1) =
      { (afterOps words s n).shiftInput.withQuad (opstep (BitVec.ofNat 6 n) (afterOps words s n).quad words) with
        T := BitVec.ofNat 6 (min (n + 1) 63), SEQ := if n + 1 = 64 then .chain else .op } := by
  rw [afterOps, ← List.tail_drop]; rfl

theorem noReset_afterOps (words : BitVec 4 → Word) {s : State} (h : Safety.NoReset s) (n : Nat) :
    Safety.NoReset (afterOps words s n) :=
  fun p hp => h p (List.mem_of_mem_drop hp)

/-- The selected operation is OPSTEP on A..D, where its message word reads as the one of `words` (R102). -/
theorem step_op_opstep {words : BitVec 4 → Word} {s : State} (h : s.input.reset = false) (hs : s.SEQ = .op)
    (hm : M s.BUF (g s.T) = .ok (words (g s.T))) :
    step s = .next (sequenceOp s.T (s.shiftInput.withQuad (opstep s.T s.quad words))) :=
  (step_op s h hs).trans (execOp_ok _ _ _ s.shiftInput _ hs rfl hm)

/-- T and SEQ as R107 has them, in one update. -/
theorem sequenceOp_eq (i : BitVec 6) (s : State) :
    sequenceOp i s =
      { s with T := if i = 63 then s.T else i + 1, SEQ := if i = 63 then .chain else s.SEQ } := by
  unfold sequenceOp; split <;> rfl

/-- The step of operation n leaves the state after n + 1 operations. -/
theorem step_afterOps {words : BitVec 4 → Word} {s : State} (hreset : Safety.NoReset s)
    (hwords : ∀ j, M s.BUF j = .ok (words j)) {n : Nat} (hn : n < 64) :
    step (afterOps words s n) = .next (afterOps words s (n + 1)) := by
  have hseq : (afterOps words s n).SEQ = .op := if_neg (by omega)
  have hmin : min n 63 = n := by omega
  have hT : (afterOps words s n).T = BitVec.ofNat 6 n := congrArg (BitVec.ofNat 6) hmin
  have hlast : BitVec.ofNat 6 n = 63 ↔ n + 1 = 64 := by
    rw [← BitVec.toNat_inj, BitVec.toNat_ofNat, Nat.mod_eq_of_lt hn]
    exact Nat.succ_inj.symm
  have hnextT : (if n + 1 = 64 then BitVec.ofNat 6 n else BitVec.ofNat 6 n + 1) = BitVec.ofNat 6 (min (n + 1) 63) := by
    split
    · congr 1; omega
    · rw [Nat.min_eq_left (by omega), BitVec.ofNat_add]; rfl
  rw [step_op_opstep (noReset_input (noReset_afterOps words hreset n)) hseq (hwords _), sequenceOp_eq]
  simp only [State.withQuad_T, State.withQuad_SEQ, State.shiftInput_T, State.shiftInput_SEQ, hT, hseq, hlast,
    hnextT, afterOps_succ]

/-- The first n operations of the block, whatever commands the host presents. -/
theorem run_afterOps {words : BitVec 4 → Word} {s : State} (hreset : Safety.NoReset s) (hs : s.SEQ = .op) (hT : s.T = 0)
    (hwords : ∀ j, M s.BUF j = .ok (words j)) {n : Nat} (hn : n ≤ 64) :
    Host.Core.run core n s = .next (afterOps words s n) := by
  induction n with
  | zero => rw [afterOps_zero words s hs hT]; rfl
  | succ n ih =>
    exact (run_add n 1 s _ (ih (by omega))).trans (run_succ 0 _ _ (step_afterOps hreset hwords (by omega)))

/-- The state s that the block start left, at the end of the block: A..D hold w, and 65 inputs of the host are used up. What
FIN and LAST then ask for is not done yet. -/
def chainedBlock (w : Quad) (s : State) : State :=
  { s.withQuad w with T := 63, SEQ := .chain, PORT := s.PORT.drop 65 }

@[simp] theorem chainedBlock_quad (w : Quad) (s : State) : (chainedBlock w s).quad = w := rfl
@[simp] theorem chainedBlock_savedQuad (w : Quad) (s : State) : (chainedBlock w s).savedQuad = s.savedQuad := rfl
@[simp] theorem chainedBlock_BUF (w : Quad) (s : State) : (chainedBlock w s).BUF = s.BUF := rfl
@[simp] theorem chainedBlock_CNT (w : Quad) (s : State) : (chainedBlock w s).CNT = s.CNT := rfl
@[simp] theorem chainedBlock_LEN (w : Quad) (s : State) : (chainedBlock w s).LEN = s.LEN := rfl
@[simp] theorem chainedBlock_PHASE (w : Quad) (s : State) : (chainedBlock w s).PHASE = s.PHASE := rfl
@[simp] theorem chainedBlock_FIN (w : Quad) (s : State) : (chainedBlock w s).FIN = s.FIN := rfl
@[simp] theorem chainedBlock_LAST (w : Quad) (s : State) : (chainedBlock w s).LAST = s.LAST := rfl
@[simp] theorem chainedBlock_ERR (w : Quad) (s : State) : (chainedBlock w s).ERR = s.ERR := rfl
@[simp] theorem chainedBlock_ERRCODE (w : Quad) (s : State) : (chainedBlock w s).ERRCODE = s.ERRCODE := rfl
@[simp] theorem chainedBlock_DRAWS (w : Quad) (s : State) : (chainedBlock w s).DRAWS = s.DRAWS := rfl
@[simp] theorem chainedBlock_EVERERR (w : Quad) (s : State) : (chainedBlock w s).EVERERR = s.EVERERR := rfl
@[simp] theorem chainedBlock_PORT (w : Quad) (s : State) : (chainedBlock w s).PORT = s.PORT.drop 65 := rfl

/-- With n = 64 as a hypothesis, so that no defeq check runs through the 64 operations. -/
theorem withQuad_afterOps {words : BitVec 4 → Word} {s : State} {n : Nat} (hn : n = 64) (w : Quad) :
    (afterOps words s n).shiftInput.withQuad w = chainedBlock w s := by
  have hseq : (if n = 64 then Seq.chain else Seq.op) = .chain := if_pos hn
  have hT : BitVec.ofNat 6 (min n 63) = 63 := by rw [hn]; rfl
  have hport : (s.PORT.drop n).tail = s.PORT.drop 65 := by rw [hn, List.tail_drop]
  rw [chainedBlock, ← hseq, ← hT, ← hport]
  rfl

/-- The chaining step after operation 63 (R109). -/
theorem step_afterOps_last (words : BitVec 4 → Word) {s : State} (hreset : Safety.NoReset s)
    (hsaved : s.savedQuad = s.quad) :
    step (afterOps words s 64) = .next (afterChain (chainedBlock (s.quad.add (runOps words s.quad 64)) s)) := by
  have hseq : (afterOps words s 64).SEQ = .chain := (afterOps_SEQ ..).trans (if_pos rfl)
  rw [step_chain _ (noReset_input (noReset_afterOps words hreset 64)) hseq, afterOps_quad, afterOps_savedQuad, hsaved,
    Quad.add_comm, withQuad_afterOps rfl]

/-- The 64 operations and the chaining step of a block (R110). -/
theorem run_block {s : State} {blk : List Byte} (hreset : Safety.NoReset s) (hs : s.SEQ = .op) (hT : s.T = 0)
    (hsaved : s.savedQuad = s.quad) (hwords : ∀ j, M s.BUF j = .ok (blockWord blk j)) :
    Host.Core.run core 65 s = .next (afterChain (chainedBlock (compress s.quad blk) s)) :=
  (run_add 64 1 s _ (run_afterOps hreset hs hT hwords (Nat.le_refl 64))).trans
    (run_succ 0 _ _ (step_afterOps_last (blockWord blk) hreset hsaved))

/-- PHASE, SEQ, FIN and LAST after the chaining step, in the three cases of R109. -/
theorem afterChain_control {s : State} {phase : Phase} {fin last : Bool} (hphase : s.PHASE = phase) (hfin : s.FIN = fin)
    (hlast : s.LAST = last) :
    ((afterChain s).PHASE, (afterChain s).SEQ, (afterChain s).FIN, (afterChain s).LAST) =
      if fin = false then (phase, .ready, fin, last)
      else if last = true then (.done, .ready, false, false)
      else (phase, .pad, fin, last) := by
  subst hphase hfin hlast
  unfold afterChain; split_ifs <;> rfl

/-- Settles O46: n operations leave A..D as the first n OPSTEPs of R110 do, by induction on n, and the chaining step adds the
saved copy. -/
theorem sixtyFiveStepsCompressBlock : Obligations.SixtyFiveStepsCompressBlock := by
  intro s blk hreset hs hT hsaved _ hblk
  have hwords := M_of_holds_block hblk
  refine ⟨⟨_, run_block hreset hs hT hsaved hwords, ?_⟩, fun n hn =>
    ⟨_, run_afterOps hreset hs hT hwords (by omega), ?_⟩⟩
  · exact ⟨(afterChain_quad _).trans (chainedBlock_quad ..),
      afterChain_control (chainedBlock_PHASE ..) (chainedBlock_FIN ..) (chainedBlock_LAST ..),
      (afterChain_savedQuad _).trans (chainedBlock_savedQuad ..), (afterChain_BUF _).trans (chainedBlock_BUF ..),
      (afterChain_CNT _).trans (chainedBlock_CNT ..), (afterChain_LEN _).trans (chainedBlock_LEN ..),
      (afterChain_ERR _).trans (chainedBlock_ERR ..), (afterChain_ERRCODE _).trans (chainedBlock_ERRCODE ..),
      (afterChain_EVERERR _).trans (chainedBlock_EVERERR ..), (afterChain_DRAWS _).trans (chainedBlock_DRAWS ..),
      (afterChain_PORT _).trans (chainedBlock_PORT ..)⟩
  · rw [afterOps_SEQ]
    split
    · exact .inr rfl
    · exact .inl rfl

end Sys2Proof.Machine
end

section
/-! SUPPORT. DIGEST: the steps that end and that keep PHASE = DONE (R121, R124), the byte order of DIGESTBYTES (R120), and the
hexadecimal form (R122, R123). -/

namespace Sys2Proof.Machine

/-! ### Reading DIGEST (R22) -/

theorem State.readDigest_done {s : State} (h : s.PHASE = .done) : s.readDigest = .ok (digestBytes s.quad) := if_pos h

theorem State.readDigest_not_done {s : State} (h : s.PHASE ≠ .done) : s.readDigest = .error .digestUnspecified := if_neg h

theorem State.readDigestPort_done {s : State} (h : s.PHASE = .done) :
    s.readDigestPort = .ok (s.D ++ s.C ++ s.B ++ s.A) := if_pos h

/-! ### PHASE = DONE: how it comes about and how it stays (R121, R124) -/

@[simp] theorem updateEffect_PHASE (data : Byte) (s : State) : (updateEffect data s).PHASE = s.PHASE := by
  by_cases hp : s.PHASE = .absorb
  · rw [updateEffect_absorb data s hp, appendByte_PHASE]
  · obtain ⟨code, e⟩ := updateEffect_rejected data s hp
    rw [e, raiseUsageError_PHASE]

@[simp] theorem finalEffect_PHASE (s : State) : (finalEffect s).PHASE = s.PHASE := by
  by_cases hp : s.PHASE = .absorb
  · rw [finalEffect_absorb s hp, appendByte_PHASE]
  · obtain ⟨code, e⟩ := finalEffect_rejected s hp
    rw [e, raiseUsageError_PHASE]

/-- Only the chaining step of the last block leads to DONE from elsewhere (R121). -/
theorem StepCase.last_chain_of_done {s t : State} (hc : StepCase s t) (hs : s.PHASE ≠ .done) (ht : t.PHASE = .done) :
    s.SEQ = .chain ∧ s.FIN = true ∧ s.LAST = true := by
  have hkept : t.PHASE ≠ s.PHASE := fun e => hs (e.symm.trans ht)
  cases hc with
  | reset _ e | init _ _ _ _ e => rw [e] at ht; contradiction
  | waits _ _ _ e | rsvd _ _ _ _ e | padl _ _ _ e => exact absurd (congrArg State.PHASE e) hkept
  | update _ _ data _ e => rw [e] at hkept; exact absurd (updateEffect_PHASE data s.shiftInput) hkept
  | final _ _ _ _ e => rw [e] at hkept; exact absurd (finalEffect_PHASE s.shiftInput) hkept
  | op _ _ m _ e => rw [e] at hkept; exact absurd (opResult_PHASE _ _ _ s.shiftInput) hkept
  | padz _ _ _ e => rw [e] at hkept; exact absurd (appendByte_PHASE _ s.shiftInput) hkept
  | chain _ hseq e =>
    rw [e, afterChain_PHASE] at hkept
    exact ⟨hseq, of_not_not fun hlast => hkept (if_neg hlast)⟩

/-- Settles O37: the chaining step is the only effect of a step that can set PHASE to DONE, and the read asks for PHASE alone. -/
theorem digestValidOnlyAfterLastBlock : Obligations.DigestValidOnlyAfterLastBlock :=
  ⟨fun s t hstep => (step_cases s t hstep).last_chain_of_done, fun _ => State.readDigest_done,
    fun _ => State.readDigest_not_done⟩

/-- In a ready engine that is not absorbing, a command other than INIT does no more than raise a usage error (R161, R162). -/
theorem StepCase.unchanged_or_usageError {s t : State} (hc : StepCase s t) (hp : s.PHASE ≠ .absorb) (hs : s.SEQ = .ready)
    (hr : s.input.reset = false) (hinit : ¬ Safety.AcceptsInit s) :
    t = s.shiftInput ∨ ∃ code, t = raiseUsageError code s.shiftInput := by
  cases hc with
  | reset h => rw [hr] at h; contradiction
  | waits _ _ _ e => exact .inl e
  | rsvd _ _ _ _ e => exact .inr ⟨_, e⟩
  | init _ _ data ha => exact absurd ⟨data, ha⟩ hinit
  | update _ _ data _ e => exact .inr (e ▸ updateEffect_rejected data s.shiftInput hp)
  | final _ _ _ _ e => exact .inr (e ▸ finalEffect_rejected s.shiftInput hp)
  | op _ h | chain _ h | padz _ h | padl _ h => rw [hs] at h; contradiction

/-- Settles O38: neither dropping the host's input nor a usage error touches PHASE, SEQ or A..D. -/
theorem digestStableUntilInitOrReset : Obligations.DigestStableUntilInitOrReset := by
  intro s t hp hs hr hinit hstep
  obtain e | ⟨code, e⟩ := (step_cases s t hstep).unchanged_or_usageError (by simp [hp]) hs hr hinit
  · rw [e]; exact ⟨hp, hs, rfl, rfl⟩
  · rw [e]; exact ⟨hp, hs, rfl, rfl⟩

/-! ### The byte order of DIGESTBYTES (R120) -/

/-- The list holds the whole bytes of a number, its lowest byte first (R9). -/
structure IsLittleEndian {w : Nat} (x : BitVec w) (bytes : List Byte) : Prop where
  width : w = 8 * bytes.length
  byte : ∀ k < bytes.length, bytes[k]? = some (x.extractLsb' (8 * k) 8)

theorem isLittleEndian_le32 (w : Word) : IsLittleEndian w (le32 w) where
  width := rfl
  byte k hk := by rw [le32_length] at hk; interval_cases k <;> rfl

/-- The bytes of a number stand before those of the number above it. -/
theorem IsLittleEndian.append {v w : Nat} {high : BitVec v} {low : BitVec w} {highBytes lowBytes : List Byte}
    (hhigh : IsLittleEndian high highBytes) (hlow : IsLittleEndian low lowBytes) :
    IsLittleEndian (high ++ low) (lowBytes ++ highBytes) where
  width := by rw [List.length_append, Nat.mul_add, ← hhigh.width, ← hlow.width, Nat.add_comm]
  byte k hk := by
    have hw := hlow.width
    rw [List.length_append] at hk
    rcases Nat.lt_or_ge k lowBytes.length with hlt | hge
    · rw [List.getElem?_append_left hlt, hlow.byte k hlt, BitVec.extractLsb'_append_eq_of_add_le (by omega)]
    · rw [List.getElem?_append_right hge, hhigh.byte _ (by omega), BitVec.extractLsb'_append_eq_of_le (by omega), hw,
        Nat.mul_sub]

theorem digestBytes_eq (w : Quad) : digestBytes w = le32 w.a ++ (le32 w.b ++ (le32 w.c ++ le32 w.d)) := rfl

/-- DIGESTBYTES are the bytes of the port {D, C, B, A}. -/
theorem isLittleEndian_digestBytes (w : Quad) : IsLittleEndian (w.d ++ w.c ++ w.b ++ w.a) (digestBytes w) := by
  rw [digestBytes_eq]
  exact (((isLittleEndian_le32 w.d).append (isLittleEndian_le32 w.c)).append (isLittleEndian_le32 w.b)).append
    (isLittleEndian_le32 w.a)

/-- Byte k of each of the four registers, four places apart. -/
theorem digestBytes_getElem?_register (w : Quad) (k : Nat) (hk : k < 4) :
    (digestBytes w)[k]? = some (w.a.extractLsb' (8 * k) 8) ∧ (digestBytes w)[4 + k]? = some (w.b.extractLsb' (8 * k) 8) ∧
      (digestBytes w)[8 + k]? = some (w.c.extractLsb' (8 * k) 8) ∧
      (digestBytes w)[12 + k]? = some (w.d.extractLsb' (8 * k) 8) := by
  have hbyte (x : Word) : (le32 x)[k]? = some (x.extractLsb' (8 * k) 8) := (isLittleEndian_le32 x).byte k hk
  have hfirst (x : Word) (rest : List Byte) : (le32 x ++ rest)[k]? = some (x.extractLsb' (8 * k) 8) := by
    rw [List.getElem?_append_left (by simpa using hk), hbyte]
  have hskip (x : Word) (rest : List Byte) (j : Nat) : (le32 x ++ rest)[4 + j]? = rest[j]? := by
    rw [List.getElem?_append_right (by simp), le32_length, Nat.add_sub_cancel_left]
  rw [digestBytes_eq, show 8 + k = 4 + (4 + k) by omega, show 12 + k = 4 + (4 + (4 + k)) by omega]
  simp only [hskip, hfirst, hbyte, and_self]

/-- Settles O51: each LE32 gives the bytes of its register, and appended they are the bytes of the port. -/
theorem digestByteOrder : Obligations.DigestByteOrder := fun s h =>
  ⟨_, _, State.readDigest_done h, State.readDigestPort_done h, digestBytes_length s.quad,
    digestBytes_getElem?_register s.quad, (isLittleEndian_digestBytes s.quad).byte⟩

/-! ### The hexadecimal form (R122, R123) -/

theorem hexDigits_getElem? (n : BitVec 4) : hexDigits[n.toNat]? = some (hexDigit n) := by
  have hn : n.toNat < hexDigits.length := n.isLt
  rw [hexDigit, List.getD_eq_getElem _ _ hn, List.getElem?_eq_getElem hn]

theorem hexDigit_mem (n : BitVec 4) : hexDigit n ∈ hexDigits := List.mem_of_getElem? (hexDigits_getElem? n)

/-- The sixteen digits differ, so that each gives its value back. -/
@[simp] theorem hexValue_hexDigit : ∀ n : BitVec 4, hexValue (hexDigit n) = some n := by decide

theorem toHex_cons (v : Byte) (d : List Byte) :
    toHex (v :: d) = hexDigit (v.extractLsb' 4 4) :: hexDigit (v.extractLsb' 0 4) :: toHex d := rfl

theorem hexDigits_getElem?_high (v : Byte) : hexDigits[v.toNat / 16]? = some (hexDigit (v.extractLsb' 4 4)) := by
  rw [← hexDigits_getElem?, BitVec.extractLsb'_toNat, Nat.shiftRight_eq_div_pow, Nat.mod_eq_of_lt (by omega)]

theorem hexDigits_getElem?_low (v : Byte) : hexDigits[v.toNat % 16]? = some (hexDigit (v.extractLsb' 0 4)) := by
  rw [← hexDigits_getElem?, BitVec.extractLsb'_toNat, Nat.shiftRight_zero]

theorem fromHex_toHex (d : List Byte) : fromHex (toHex d) = some d := by
  induction d with
  | nil => rfl
  | cons v d ih =>
    have hhalves : (v.extractLsb' 4 4 ++ v.extractLsb' 0 4 : Byte) = v :=
      (BitVec.extractLsb'_append_extractLsb'_eq_extractLsb' (Nat.zero_add 4).symm).trans BitVec.extractLsb'_eq_self
    simp only [toHex_cons, fromHex, hexValue_hexDigit, ih, hhalves]

theorem toHex_length (d : List Byte) : (toHex d).length = 2 * d.length := by
  induction d with
  | nil => rfl
  | cons v d ih => rw [toHex_cons, List.length_cons, List.length_cons, List.length_cons, ih, Nat.mul_succ]

theorem mem_hexDigits_of_mem_toHex (d : List Byte) : ∀ c ∈ toHex d, c ∈ hexDigits := by
  induction d with
  | nil => exact List.forall_mem_nil _
  | cons v d ih => exact List.forall_mem_cons.mpr ⟨hexDigit_mem _, List.forall_mem_cons.mpr ⟨hexDigit_mem _, ih⟩⟩

/-- The two digits of byte k are those at 2k and 2k + 1. -/
theorem toHex_getElem? (d : List Byte) (k : Nat) (v : Byte) (h : d[k]? = some v) :
    (toHex d)[2 * k]? = some (hexDigit (v.extractLsb' 4 4)) ∧ (toHex d)[2 * k + 1]? = some (hexDigit (v.extractLsb' 0 4)) := by
  induction d generalizing k with
  | nil => contradiction
  | cons u d ih =>
    cases k with
    | zero => cases h; exact ⟨rfl, rfl⟩
    | succ k => exact ih k h

/-- Settles O52: byte by byte, from one digit's value. -/
theorem hexFormRoundTrips : Obligations.HexFormRoundTrips := by
  refine fun d => ⟨fromHex_toHex d, toHex_length d, mem_hexDigits_of_mem_toHex d, fun k v h => ?_⟩
  rw [hexDigits_getElem?_high, hexDigits_getElem?_low]
  exact toHex_getElem? d k v h

end Sys2Proof.Machine
end

section
/-! SUPPORT. From a state of the invariant `stepsToReady` is no bound but the exact number of steps to a ready state: each
micro-step takes one off it (R140). -/

namespace Sys2Proof

open Sys2Proof.Machine

/-! ### The count of the remaining steps -/

theorem stepsToReady_pad {s : State} (h : s.SEQ = .pad) : stepsToReady s = paddingSteps s := by
  simp only [stepsToReady, h]

theorem paddingSteps_pos (s : State) : 0 < paddingSteps s := by
  have := s.CNT.isLt
  unfold paddingSteps; split_ifs <;> omega

/-- No steps remain exactly in a ready state. -/
theorem stepsToReady_eq_zero_iff (s : State) : stepsToReady s = 0 ↔ s.SEQ = .ready := by
  have := s.T.isLt
  have := paddingSteps_pos s
  cases hs : s.SEQ <;> simp [stepsToReady, hs] <;> omega

theorem paddingSteps_of_le {s : State} (h : s.CNT.toNat ≤ 56) : paddingSteps s = 122 - s.CNT.toNat := by
  rw [paddingSteps, if_pos h]; omega

theorem paddingSteps_of_gt {s : State} (h : 56 < s.CNT.toNat) (hfin : s.FIN = true) (hlast : s.LAST = false) :
    paddingSteps s = 251 - s.CNT.toNat := by
  have := s.CNT.isLt
  rw [paddingSteps, if_neg (Nat.not_le.mpr h), if_neg (by simp [hfin, hlast])]; omega

/-- From the start of a block that FINAL filled without room for the length field: the block, and the next one from CNT = 0. -/
theorem stepsToReady_blockStart {s : State} (hs : s.SEQ = .op) (hT : s.T = 0) (hC : s.CNT = 0) (hfin : s.FIN = true)
    (hlast : s.LAST = false) : stepsToReady s = 187 := by
  simp [stepsToReady, hs, hT, stepsAfterChain, paddingSteps, hC, hfin, hlast]

/-- What remains after a byte is appended at CNT in state PAD, where that byte may also be FINAL's at 56. -/
theorem stepsToReady_appendByte {v : Byte} {s : State} (hs : s.SEQ = .pad) (hfin : s.FIN = true) (hlast : s.LAST = false) :
    stepsToReady (appendByte v s) = if s.CNT.toNat ≤ 55 then 121 - s.CNT.toNat else 250 - s.CNT.toNat := by
  have hfin' : (appendByte v s).FIN = true := by rw [appendByte_FIN, hfin]
  have hlast' : (appendByte v s).LAST = false := by rw [appendByte_LAST, hlast]
  by_cases h63 : s.CNT = 63
  · rw [stepsToReady_blockStart (by rw [appendByte_SEQ, if_pos h63]) (by rw [appendByte_T, if_pos h63])
      (by rw [appendByte_CNT, h63]; rfl) hfin' hlast', h63]
    rfl
  · have hcnt : (appendByte v s).CNT.toNat = s.CNT.toNat + 1 := by rw [appendByte_CNT]; exact bufIndex_succ_toNat h63
    rw [stepsToReady_pad (by rw [appendByte_SEQ, if_neg h63, hs])]
    split
    · rw [paddingSteps_of_le (by omega)]; omega
    · rw [paddingSteps_of_gt (by omega) hfin' hlast']; omega

theorem stepsToReady_padz {s : State} (hs : s.SEQ = .pad) (hfin : s.FIN = true) (hlast : s.LAST = false)
    (hc : s.CNT ≠ 56) : stepsToReady (appendByte 0x00 s) + 1 = stepsToReady s := by
  have h56 : s.CNT.toNat ≠ 56 := fun e => hc (BitVec.eq_of_toNat_eq e)
  have := s.CNT.isLt
  rw [stepsToReady_appendByte hs hfin hlast, stepsToReady_pad hs]
  split
  · rw [paddingSteps_of_le (by omega)]; omega
  · rw [paddingSteps_of_gt (by omega) hfin hlast]; omega

theorem stepsToReady_opResult (f m : Word) {s : State} (hs : s.SEQ = .op) :
    stepsToReady (opResult f m s.T s) + 1 = stepsToReady s := by
  have hafter : stepsAfterChain (opResult f m s.T s) = stepsAfterChain s := by simp [stepsAfterChain, paddingSteps]
  have hlt := s.T.isLt
  by_cases hT : s.T = 63
  · have : s.T.toNat = 63 := congrArg BitVec.toNat hT
    simp only [stepsToReady, opResult_SEQ, if_pos hT, hs, hafter]; omega
  · have := bufIndex_succ_toNat hT
    simp only [stepsToReady, opResult_SEQ, opResult_T, if_neg hT, hs, hafter]; omega

theorem stepsToReady_afterChain {s : State} (hs : s.SEQ = .chain) (w : Quad) :
    stepsToReady (afterChain (s.withQuad w)) + 1 = stepsToReady s := by
  cases hf : s.FIN <;> cases hl : s.LAST <;>
    simp [stepsToReady, stepsAfterChain, paddingSteps, hs, hf, hl, afterChain_SEQ, afterChain_FIN, afterChain_LAST,
      Nat.add_comm]

theorem stepsToReady_padlEffect {s : State} (hs : s.SEQ = .pad) (hc : s.CNT = 56) :
    stepsToReady (padlEffect s) + 1 = stepsToReady s := by
  simp [stepsToReady, stepsAfterChain, paddingSteps, padlEffect, hs, hc]

/-- Every micro-step of the invariant takes one off the count (R140). -/
theorem Safety.Inv.stepsToReady_step {s t : State} (h : Safety.Inv s) (hr : s.input.reset = false) (hs : s.SEQ ≠ .ready)
    (hc : StepCase s t) : stepsToReady t + 1 = stepsToReady s := by
  cases hc with
  | reset h => rw [hr] at h; contradiction
  | waits _ hs' | rsvd _ hs' | init _ hs' | update _ hs' | final _ hs' => exact absurd hs' hs
  | op _ hop m _ e => rw [e]; exact stepsToReady_opResult _ m (s := s.shiftInput) hop
  | chain _ hchain e => rw [e]; exact stepsToReady_afterChain (s := s.shiftInput) hchain _
  | padz _ hpad hcnt e =>
    obtain ⟨hfin, hlast⟩ := h.padFlags hpad
    rw [e]; exact stepsToReady_padz (s := s.shiftInput) hpad hfin hlast hcnt
  | padl _ hpad hcnt e => rw [e]; exact stepsToReady_padlEffect (s := s.shiftInput) hpad hcnt

/-! ### The run to a ready state -/

/-- A computation that is being finished or is finished (R19). -/
def Finishing (s : State) : Prop := s.FIN = true ∨ s.PHASE = .done

theorem Finishing.afterChain {s : State} (h : Finishing s) : Finishing (afterChain s) := by
  unfold Finishing at *
  rw [afterChain_FIN, afterChain_PHASE]
  cases hf : s.FIN <;> cases hl : s.LAST <;> simp_all

/-- No micro-step clears FIN but the one that sets PHASE to DONE (R109). -/
theorem Finishing.step {s t : State} (h : Finishing s) (hr : s.input.reset = false) (hs : s.SEQ ≠ .ready)
    (hc : StepCase s t) : Finishing t := by
  cases hc with
  | reset h => rw [hr] at h; contradiction
  | waits _ hs' | rsvd _ hs' | init _ hs' | update _ hs' | final _ hs' => exact absurd hs' hs
  | op _ _ m _ e => rw [e, Finishing, opResult_FIN, opResult_PHASE]; exact h
  | chain _ _ e => rw [e]; exact Finishing.afterChain h
  | padz _ _ _ e => rw [e, Finishing, appendByte_FIN, appendByte_PHASE]; exact h
  | padl _ _ _ e => rw [e]; exact h

/-- A step drops one input of the host, so a host that has lined up no Reset still has none. -/
theorem noReset_step {s t : State} (h : Safety.NoReset s) (ht : step s = .next t) : Safety.NoReset t :=
  fun p hp => h p (List.mem_of_mem_tail (step_PORT s t ht ▸ hp))

/-- The state n steps on from s, up to the first ready one (R130, R140). -/
structure BusyRun (n : Nat) (s t : State) : Prop where
  run : Host.Core.run core n s = .next t
  inv : Safety.Inv t
  noReset : Safety.NoReset t
  remaining : stepsToReady t + n = stepsToReady s
  finishing : Finishing s → Finishing t

/-- Whatever commands the host presents, the count goes down to 0 (R140). -/
theorem exists_busyRun {s : State} (h : Safety.Inv s) (hreset : Safety.NoReset s) {n : Nat} (hn : n ≤ stepsToReady s) :
    ∃ t, BusyRun n s t := by
  induction n with
  | zero => exact ⟨s, rfl, h, hreset, rfl, id⟩
  | succ n ih =>
    obtain ⟨t, hrun, hinv, hport, hleft, hfin⟩ := ih (by omega)
    have hbusy : t.SEQ ≠ .ready := fun e => by
      have := (stepsToReady_eq_zero_iff t).mpr e
      omega
    obtain ⟨u, hu, huinv⟩ := everyStepKeepsInvariant t hinv
    have hcase := step_cases t u hu
    have hr := noReset_input hport
    have := hinv.stepsToReady_step hr hbusy hcase
    exact ⟨u, (run_add n 1 s t hrun).trans (run_succ 0 t u hu), huinv, noReset_step hport hu, by omega,
      fun hs => (hfin hs).step hr hbusy hcase⟩

theorem BusyRun.ready_iff {n : Nat} {s t : State} (h : BusyRun n s t) : t.SEQ = .ready ↔ n = stepsToReady s := by
  rw [← stepsToReady_eq_zero_iff]
  have := h.remaining
  omega

/-- The invariant bounds the count by 194, which it reaches in state PAD with CNT = 57 (R140). -/
theorem Safety.Inv.stepsToReady_le {s : State} (h : Safety.Inv s) : stepsToReady s ≤ 194 := by
  cases hs : s.SEQ with
  | ready => rw [(stepsToReady_eq_zero_iff s).mpr hs]; decide
  | op | chain =>
    have hC : s.CNT = 0 := h.blockCount (by simp [hs])
    have hpad : paddingSteps s = 122 := by rw [paddingSteps_of_le (by simp [hC]), hC]; rfl
    simp only [stepsToReady, hs, stepsAfterChain, hpad]
    split_ifs <;> omega
  | pad =>
    obtain ⟨hfin, hlast⟩ := h.padFlags hs
    rw [stepsToReady_pad hs]
    rcases Nat.lt_or_ge 56 s.CNT.toNat with hgt | hle
    · rw [paddingSteps_of_gt hgt hfin hlast]; omega
    · rw [paddingSteps_of_le hle]; omega

/-- Settles O55: the count of the remaining steps is at most 194 and goes down to 0. -/
theorem busyEngineBecomesReady : Obligations.BusyEngineBecomesReady := by
  intro s h hreset
  obtain ⟨t, ht⟩ := exists_busyRun h hreset (Nat.le_refl _)
  exact ⟨stepsToReady s, h.stepsToReady_le, t, ht.run, ht.ready_iff.mpr rfl, ht.inv⟩

/-! ### The steps after FINAL (R133, R140) -/

/-- Settles O53: the count after FINAL is the one of the statement, and only the last chaining step ends it. -/
theorem finalCompletesInExactSteps : Obligations.FinalCompletesInExactSteps := by
  intro data s u h hreset hs hp hu count
  obtain rfl : finalEffect s = u := by rw [exec_final data s hs] at hu; cases hu; rfl
  have hcount : stepsToReady (finalEffect s) = count := by
    rw [finalEffect_absorb s hp, stepsToReady_appendByte rfl rfl rfl]
  have hinv := h.finalEffect hs
  have hport : Safety.NoReset (finalEffect s) := by
    rw [finalEffect_absorb s hp]; intro p hmem; exact hreset p (by simpa using hmem)
  have hfin : Finishing (finalEffect s) := .inl (by rw [finalEffect_absorb s hp, appendByte_FIN])
  refine ⟨?_, fun n hn => ?_⟩
  · obtain ⟨t, ht⟩ := exists_busyRun hinv hport (Nat.le_of_eq hcount.symm)
    have hready := ht.ready_iff.mpr hcount.symm
    exact ⟨t, ht.run, hready, (ht.finishing hfin).resolve_left (by simp [(ht.inv.readyFlags hready).1])⟩
  · obtain ⟨t, ht⟩ := exists_busyRun hinv hport (n := n) (by omega)
    exact ⟨t, ht.run, fun e => by have := ht.ready_iff.mp e; omega⟩

end Sys2Proof
end

section
/-! SUPPORT. The engine between two lines of a script: what a run does while the host drives nothing, the state that the
message bytes fed so far leave, and the way from it to the digest (R67, R138, R139). -/

namespace Sys2Proof.Machine

/-! ### While the host drives nothing -/

/-- A ready engine to which nothing is presented waits (R130). -/
theorem step_idle {s : State} (hp : s.PORT = []) (hs : s.SEQ = .ready) : step s = .next s := by
  have hin : s.input = PortInput.idle := by rw [State.input, hp]; rfl
  have hshift : s.shiftInput = s := by rw [State.shiftInput, hp, List.tail_nil, ← hp]
  rw [step_none s (by rw [hin]; rfl) (by simp [selected_ready s hs, hin, PortInput.idle]), hshift]

theorem run_idle {s : State} (hp : s.PORT = []) (hs : s.SEQ = .ready) (n : Nat) : Host.Core.run core n s = .next s := by
  induction n with
  | zero => rfl
  | succ n ih => rw [run_succ n s s (step_idle hp hs), ih]

/-- The first step of a run that stops nowhere. -/
theorem exists_step_of_run {n : Nat} {s t : State} (h : Host.Core.run core (n + 1) s = .next t) :
    ∃ u, step s = .next u ∧ Host.Core.run core n u = .next t := by
  cases hst : step s with
  | next u => exact ⟨u, rfl, (run_succ n s u hst).symm.trans h⟩
  | fault e => simp [Host.Core.run, core, hst] at h
  | refused r => simp [Host.Core.run, core, hst] at h

/-- A run that ends in a ready state is a run to ready: from the first ready state on nothing happens. -/
theorem runToReady_of_run {n fuel : Nat} {s t : State} (hp : s.PORT = []) (h : Host.Core.run core n s = .next t)
    (ht : t.SEQ = .ready) (hn : n ≤ fuel) : runToReady fuel s = .next t := by
  induction n generalizing s fuel with
  | zero => cases h; exact runToReady_ready fuel t ht
  | succ n ih =>
    by_cases hs : s.SEQ = .ready
    · rw [run_idle hp hs] at h; cases h; exact runToReady_ready fuel t ht
    · obtain ⟨u, hu, hrun⟩ := exists_step_of_run h
      obtain ⟨fuel, rfl⟩ := Nat.exists_eq_add_one_of_ne_zero (Nat.ne_of_gt (Nat.lt_of_lt_of_le n.succ_pos hn))
      rw [runToReady_busy fuel s u hs hu]
      exact ih (by rw [step_PORT s u hu, hp]; rfl) hrun (by omega)

/-- A step in which no command is accepted and no Reset happens writes neither the error flags nor LEN (R135). -/
theorem StepCase.errors_eq {s t : State} (hc : StepCase s t) (hr : s.input.reset = false) (ha : Safety.accepted s = none) :
    t.ERR = s.ERR ∧ t.ERRCODE = s.ERRCODE ∧ t.EVERERR = s.EVERERR ∧ t.LEN = s.LEN := by
  cases hc with
  | reset h => rw [hr] at h; contradiction
  | rsvd _ _ _ h | init _ _ _ h | update _ _ _ h | final _ _ _ h => rw [ha] at h; contradiction
  | waits _ _ _ e | padl _ _ _ e => rw [e]; exact ⟨rfl, rfl, rfl, rfl⟩
  | op _ _ m _ e => rw [e]; simp
  | chain _ _ e => rw [e]; simp
  | padz _ _ _ e => rw [e]; simp

theorem run_errors_eq {n : Nat} {s t : State} (hp : s.PORT = []) (h : Host.Core.run core n s = .next t) :
    t.ERR = s.ERR ∧ t.ERRCODE = s.ERRCODE := by
  induction n generalizing s with
  | zero => cases h; exact ⟨rfl, rfl⟩
  | succ n ih =>
    obtain ⟨u, hu, hrun⟩ := exists_step_of_run h
    have hin : s.input = PortInput.idle := by rw [State.input, hp]; rfl
    obtain ⟨herr, hcode, -, -⟩ := (step_cases s u hu).errors_eq (by rw [hin]; rfl) (accepted_invalid s (by rw [hin]; rfl))
    rw [← herr, ← hcode]
    exact ih (by rw [step_PORT s u hu, hp]; rfl) hrun

/-! ### The blocks of a message that goes on (R82, R115) -/

theorem pad_eq_append (m : List Byte) : ∃ rest, pad m = m ++ rest :=
  ⟨_, by rw [pad, List.append_assoc, List.append_assoc]⟩

/-- A block within the message is a part of the message. -/
theorem block_of_le (m : List Byte) (q : Nat) (h : 64 * (q + 1) ≤ m.length) : block m q = (m.drop (64 * q)).take 64 := by
  obtain ⟨rest, e⟩ := pad_eq_append m
  rw [block, e, List.drop_append_of_le_length (by omega), List.take_append_of_le_length (by rw [List.length_drop]; omega)]

theorem block_append (m r : List Byte) (q : Nat) (h : 64 * (q + 1) ≤ m.length) : block (m ++ r) q = block m q := by
  rw [block_of_le m q h, block_of_le (m ++ r) q (by rw [List.length_append]; omega),
    List.drop_append_of_le_length (by omega), List.take_append_of_le_length (by rw [List.length_drop]; omega)]

/-- The chaining value of the whole blocks does not depend on what follows them. -/
theorem chainValue_append (m r : List Byte) (q : Nat) (h : 64 * q ≤ m.length) : chainValue (m ++ r) q = chainValue m q := by
  induction q with
  | zero => rfl
  | succ q ih => rw [chainValue_succ, chainValue_succ, ih (by omega), block_append m r q h]

/-! ### Absorbing the message (R131, R132, R138) -/

/-- The state that the message m leaves, with the chaining value of its whole blocks (R138). -/
structure Absorbing (m : List Byte) (s : State) : Prop extends Absorbed m s where
  notFin : s.FIN = false
  chained : s.quad = chainValue m (m.length / 64)

theorem absorbing_initEffect {s : State} (hreset : Safety.NoReset s) (hs : s.SEQ = .ready) : Absorbing [] (initEffect s) where
  noReset := hreset
  seq := hs
  phase := rfl
  length := rfl
  count := rfl
  bytes k hk := absurd hk (Nat.not_lt_zero k)
  notFin := rfl
  chained := rfl

/-- UPDATE's new state before its byte is appended. -/
def countByte (s : State) : State := { s with LEN := s.LEN + 8 }

/-- The bytes of the block that v goes on with, v among them. -/
theorem Absorbed.holdsBlock_appendByte {m : List Byte} {s : State} (h : Absorbed m s) (v : Byte) :
    HoldsBlock (m ++ [v]) (m.length / 64) (m.length % 64 + 1) (appendByte v (countByte s)) := by
  intro k hk
  have hlen : (m ++ [v]).length = m.length + 1 := List.length_append
  rw [appendByte_BUF, bufWrite, Memory.lookup_insert, block_getD_message _ _ _ (by omega) (by omega),
    show (countByte s).CNT.toNat = m.length % 64 from h.count_toNat]
  split
  · have : 64 * (m.length / 64) + k = m.length := by omega
    simp [this]
  · have hold := h.padding_markFinal.filled k (by rw [show (markFinal s).CNT.toNat = _ from h.count_toNat]; omega)
    rw [block_getD_message _ _ _ (by omega) (by omega)] at hold
    rw [List.getD_append _ _ _ _ (by omega)]
    exact hold

theorem length_succ_bits (m : List Byte) (v : Byte) :
    BitVec.ofNat 64 (8 * m.length) + 8 = BitVec.ofNat 64 (8 * (m ++ [v]).length) := by
  rw [List.length_append, Nat.mul_add, BitVec.ofNat_add]; rfl

theorem length_succ_count (m : List Byte) (v : Byte) :
    BitVec.ofNat 6 m.length + 1 = BitVec.ofNat 6 (m ++ [v]).length := by
  rw [List.length_append, BitVec.ofNat_add]; rfl

/-- A byte that does not complete its block (R132). -/
theorem Absorbing.appendByte_inner {m : List Byte} {s : State} (h : Absorbing m s) (v : Byte) (hc : m.length % 64 ≠ 63) :
    Absorbing (m ++ [v]) (appendByte v (countByte s)) := by
  have h63 : (countByte s).CNT ≠ 63 := fun e => hc (by rw [← h.count_toNat, show s.CNT = 63 from e]; rfl)
  have hlen : (m ++ [v]).length = m.length + 1 := List.length_append
  have hhold := h.holdsBlock_appendByte v
  rw [show m.length / 64 = (m ++ [v]).length / 64 by omega] at hhold
  exact {
    noReset := by intro p hp; exact h.noReset p (by rwa [appendByte_PORT] at hp)
    seq := by rw [appendByte_SEQ, if_neg h63]; exact h.seq
    phase := by rw [appendByte_PHASE]; exact h.phase
    length := by rw [appendByte_LEN, countByte, h.length, length_succ_bits m v]
    count := by rw [appendByte_CNT, countByte, h.count, length_succ_count m v]
    bytes := fun k hk => by
      rw [bufRead_ofNat_eq_ok _ _ _ (by omega), hhold k (by omega), block_getD_message _ _ _ (by omega) (by omega)]
      congr 2; omega
    notFin := by rw [appendByte_FIN]; exact h.notFin
    chained := by
      rw [appendByte_quad, show (countByte s).quad = _ from h.chained, ← chainValue_append m [v] _ (by omega)]
      congr 1; omega }

/-- A byte that completes its block: 65 steps later the block is chained (R110, R132). -/
theorem Absorbing.run_appendByte_last {m : List Byte} {s : State} (h : Absorbing m s) (v : Byte) (hc : m.length % 64 = 63) :
    ∃ t, Host.Core.run core 65 (appendByte v (countByte s)) = .next t ∧ Absorbing (m ++ [v]) t := by
  have h63 : (countByte s).CNT = 63 := BitVec.eq_of_toNat_eq (h.count_toNat.trans hc)
  have hlen : (m ++ [v]).length = m.length + 1 := List.length_append
  have hblock : (m ++ [v]).length / 64 = m.length / 64 + 1 := by omega
  have hhold := h.holdsBlock_appendByte v
  have hquad : (appendByte v (countByte s)).quad = chainValue (m ++ [v]) (m.length / 64) := by
    rw [appendByte_quad, chainValue_append m [v] _ (by omega)]; exact h.chained
  have hreset : Safety.NoReset (appendByte v (countByte s)) := by
    intro p hp; exact h.noReset p (by rwa [appendByte_PORT] at hp)
  have hfin : (appendByte v (countByte s)).FIN = false := by rw [appendByte_FIN]; exact h.notFin
  have hrun := run_block (blk := block (m ++ [v]) (m.length / 64)) hreset (by rw [appendByte_SEQ, if_pos h63])
    (by rw [appendByte_T, if_pos h63]) (by rw [appendByte_savedQuad, if_pos h63, appendByte_quad])
    (M_of_holds_block fun k => (bufRead_eq_ok _ _ _).mpr (hhold k.toNat (by omega)))
  rw [hquad, ← chainValue_succ, ← hblock, afterChain_not_fin _ ((chainedBlock_FIN ..).trans hfin)] at hrun
  refine ⟨_, hrun, ?_⟩
  exact {
    noReset := fun p hp => hreset p (List.mem_of_mem_drop hp)
    seq := rfl
    phase := (appendByte_PHASE ..).trans h.phase
    length := by
      rw [← length_succ_bits m v, ← h.length]; exact appendByte_LEN v (countByte s)
    count := by
      rw [← length_succ_count m v, ← h.count]; exact appendByte_CNT v (countByte s)
    bytes := fun k hk => absurd hk (by omega)
    notFin := hfin
    chained := rfl }

/-- UPDATE takes the message on by its byte (R132, R138). -/
theorem Absorbing.run_updateEffect {m : List Byte} {s : State} (h : Absorbing m s) (v : Byte) :
    ∃ n ≤ busyBound, ∃ t, Host.Core.run core n (updateEffect v s) = .next t ∧ Absorbing (m ++ [v]) t := by
  rw [updateEffect_absorb v s h.phase]
  by_cases hc : m.length % 64 = 63
  · exact ⟨65, by decide, h.run_appendByte_last v hc⟩
  · exact ⟨0, by decide, _, rfl, h.appendByte_inner v hc⟩

/-! ### Finishing (R115, R133, R139) -/

/-- A..D hold w while a block is being filled, and AA..DD too where the block starts (R12, R108). -/
structure FillingFrom (w : Quad) (s : State) : Prop where
  quad : s.quad = w
  start : s.SEQ = .pad ∨ s.SEQ = .op ∧ s.T = 0 ∧ s.savedQuad = w

theorem fillingFrom_appendByte (v : Byte) {s : State} (hs : s.SEQ = .pad) : FillingFrom s.quad (appendByte v s) := by
  refine ⟨appendByte_quad v s, ?_⟩
  rw [appendByte_SEQ, appendByte_T, appendByte_savedQuad]
  split
  · exact .inr ⟨rfl, rfl, rfl⟩
  · exact .inl hs

theorem fillingFrom_step_pad {s t : State} (hreset : Safety.NoReset s) (hs : s.SEQ = .pad) (ht : step s = .next t) :
    FillingFrom s.quad t := by
  by_cases hc : s.CNT = 56
  · rw [step_padl s (noReset_input hreset) hs hc] at ht
    cases ht
    exact ⟨rfl, .inr ⟨rfl, rfl, rfl⟩⟩
  · rw [step_padz s (noReset_input hreset) hs hc] at ht
    cases ht
    exact fillingFrom_appendByte 0x00 (s := s.shiftInput) hs

/-- A run in which no block starts before its end leaves A..D alone and saves them at the start. -/
theorem FillingFrom.of_run {w : Quad} {n : Nat} {s t : State} (h : FillingFrom w s) (hreset : Safety.NoReset s)
    (hrun : RunStarting (fun _ => False) n s t) : FillingFrom w t := by
  induction n generalizing s with
  | zero => cases hrun.run; exact h
  | succ n ih =>
    obtain ⟨u, hu, htail⟩ := exists_step_of_run hrun.run
    have hpad : s.SEQ = .pad := h.start.resolve_right fun hstart => by
      obtain ⟨v, hv, hnone⟩ := hrun.starts 0 n.succ_pos
      cases hv
      exact hnone hstart.1 hstart.2.1
    have hstarts : RunStarting (fun _ => False) n u t := ⟨htail, fun k hk => by
      obtain ⟨v, hv, hnone⟩ := hrun.starts (k + 1) (Nat.succ_lt_succ hk)
      exact ⟨v, (run_succ k s u hu).symm.trans hv, hnone⟩⟩
    exact ih (h.quad ▸ fillingFrom_step_pad hreset hpad hu) (noReset_step hreset hu) hstarts

/-- At the end of the block its chaining step is next (R107). -/
theorem Compressing.chaining_chainedBlock {m : List Byte} {q : Nat} {last : Bool} {s : State} (h : Compressing m q last s)
    (w : Quad) : Chaining m last (chainedBlock w s) where
  noReset p hp := h.noReset p (List.mem_of_mem_drop hp)
  fin := h.fin
  length := h.length
  seq := rfl
  isLast := h.isLast
  count := h.count

/-- The 65 steps of BLOCK(m, q) take the chaining value on by one block (R110, R115). -/
theorem Compressing.run_chained {m : List Byte} {q : Nat} {last : Bool} {s : State} (h : Compressing m q last s)
    (hf : FillingFrom (chainValue m q) s) :
    ∃ t, Host.Core.run core 65 s = .next (afterChain t) ∧ Chaining m last t ∧ t.quad = chainValue m (q + 1) := by
  obtain ⟨-, hT, hsaved⟩ := hf.start.resolve_left (by simp [h.seq])
  have hrun := Machine.run_block h.noReset h.seq hT (hsaved.trans hf.quad.symm) (M_of_holds_block h.bufRead_eq)
  have hquad : compress s.quad (block m q) = chainValue m (q + 1) := by rw [hf.quad, chainValue_succ]
  exact ⟨_, hrun, h.chaining_chainedBlock _, (chainedBlock_quad ..).trans hquad⟩

/-- From a block with room for the length field to the digest (R115). -/
theorem Padding.run_to_digest {m : List Byte} {q n : Nat} {s : State} (h : Padding m q s)
    (hm : m.length < 64 * q + s.CNT.toNat) (hn : s.CNT.toNat + n = 56) (hq : q + 1 = numBlocks m.length)
    (hquad : s.quad = chainValue m q) :
    ∃ t, Host.Core.run core (n + 1 + 65) s = .next t ∧ t.SEQ = .ready ∧ t.PHASE = .done ∧
      t.quad = chainValue m (numBlocks m.length) := by
  obtain ⟨t, hfill, hcomp, -⟩ := h.run_to_last hm hn hq
  have hfrom : FillingFrom (chainValue m q) t := .of_run ⟨hquad, .inl h.seq⟩ h.noReset hfill
  obtain ⟨u, hrun, hchain, hu⟩ := hcomp.run_chained hfrom
  obtain ⟨hready, hdone⟩ := hchain.afterChain_done u.quad
  exact ⟨afterChain u, (run_add _ _ _ _ hfill.run).trans hrun, hready, hdone, by rw [afterChain_quad, hu, hq]⟩

/-- FINAL leads to the digest of the message (R115, R133, R139). -/
theorem Absorbing.run_finalEffect {m : List Byte} {s : State} (h : Absorbing m s) :
    ∃ n ≤ busyBound, ∃ t, Host.Core.run core n (finalEffect s) = .next t ∧ t.SEQ = .ready ∧ t.PHASE = .done ∧
      t.quad = chainValue m (numBlocks m.length) := by
  have hfrom : FillingFrom (chainValue m (m.length / 64)) (finalEffect s) := by
    rw [h.finalEffect_eq, ← h.chained]
    exact fillingFrom_appendByte 0x80 (s := markFinal s) rfl
  rcases Nat.lt_or_ge (m.length % 64) 56 with hc | hc
  · obtain ⟨hpad, hcnt⟩ := h.final_inner (by omega)
    exact ⟨55 - m.length % 64 + 1 + 65, by unfold busyBound; omega,
      hpad.run_to_digest (by omega) (by omega) (by unfold numBlocks; omega) hfrom.quad⟩
  · obtain ⟨t, hfill, hcomp, -⟩ := h.completes_block hc
    have hreset : Safety.NoReset (finalEffect s) := by
      rw [h.finalEffect_eq]; intro p hp; exact h.noReset p (by rwa [appendByte_PORT] at hp)
    obtain ⟨u, hblock, hchain, hu⟩ := hcomp.run_chained (hfrom.of_run hreset hfill)
    obtain ⟨hpad, hcnt⟩ := hchain.afterChain_padding u.quad (m.length / 64 + 1)
    have hlast := hpad.run_to_digest (n := 56) (by omega) (by rw [hcnt]; rfl) (by unfold numBlocks; omega)
      ((afterChain_quad u).trans hu)
    obtain ⟨v, hrun, hv⟩ := hlast
    exact ⟨63 - m.length % 64 + 65 + (56 + 1 + 65), by unfold busyBound; omega, v,
      (run_add _ _ _ _ ((run_add _ _ _ _ hfill.run).trans hblock)).trans hrun, hv⟩

end Sys2Proof.Machine
end

section
/-! SUPPORT. Scripts as the host sees them: the message fed since INIT, whether it has been finished, and the error flags decide
STATUS and DIGEST after every script that begins with INIT (R131 to R139). -/

namespace Sys2Proof.Machine

/-! ### What the host knows of a computation -/

/-- A computation as its host can follow it: the bytes fed since INIT, whether FINAL came, and the error flags. -/
structure HostView where
  message : List Byte
  finished : Bool
  err : Bool
  code : Cause

/-- Right after INIT (R131). -/
def HostView.start : HostView := ⟨[], false, false, .none⟩

/-- The first cause is kept (R162). -/
def HostView.raise (cause : Cause) (c : HostView) : HostView :=
  { c with err := true, code := if c.err then c.code else cause }

/-- What an accepted command does to the computation (R131 to R134). -/
def HostView.accept : Instr → HostView → HostView
  | .init _, _ => .start
  | .update v, c => if c.finished then c.raise .updateAfterFinal else { c with message := c.message ++ [v] }
  | .final _, c => if c.finished then c.raise .finalAfterFinal else { c with finished := true }
  | .rsvd _, c => c.raise .reservedCommand
  | _, c => c

/-- What a script line without RESET does to it; a line that is no command word does nothing (R67). -/
def HostView.afterLine (c : HostView) (line : ScriptLine) : HostView :=
  match line.word with
  | some word => c.accept (decodeCmd word)
  | none => c

/-- The ready state s is one that the computation c leaves (R138, R139). -/
structure Shows (c : HostView) (s : State) : Prop where
  ready : s.SEQ = .ready
  err : s.ERR = c.err
  code : s.ERRCODE = c.code
  absorbing : c.finished = false → Absorbing c.message s
  digest : c.finished = true → s.PHASE = .done ∧ s.quad = chainValue c.message (numBlocks c.message.length)

/-- What the host drives later plays no part. -/
theorem Shows.clearPort {c : HostView} {s : State} (h : Shows c s) : Shows c { s with PORT := [] } :=
  { h with
    absorbing := fun hf =>
      have ha := h.absorbing hf
      { ha with noReset := fun _ hmem => absurd hmem List.not_mem_nil } }

theorem Shows.raise {c : HostView} {s : State} (h : Shows c s) (cause : Cause) :
    Shows (c.raise cause) (raiseUsageError cause s) :=
  { h with
    err := rfl
    code := by rw [raiseUsageError_ERRCODE, h.err, h.code]; rfl
    absorbing := fun hf =>
      have ha := h.absorbing hf
      { ha with } }

theorem shows_initEffect {s : State} (hp : s.PORT = []) (hs : s.SEQ = .ready) : Shows .start (initEffect s) where
  ready := hs
  err := rfl
  code := rfl
  absorbing _ := absorbing_initEffect (by simp [Safety.NoReset, hp]) hs
  digest h := nomatch h

/-! ### The commands -/

@[simp] theorem updateEffect_PORT (data : Byte) (s : State) : (updateEffect data s).PORT = s.PORT := by
  unfold updateEffect; split <;> simp

@[simp] theorem finalEffect_PORT (s : State) : (finalEffect s).PORT = s.PORT := by
  unfold finalEffect; split <;> simp

theorem updateEffect_done (data : Byte) {s : State} (h : s.PHASE = .done) :
    updateEffect data s = raiseUsageError .updateAfterFinal s := by simp only [updateEffect, h]

theorem finalEffect_done {s : State} (h : s.PHASE = .done) :
    finalEffect s = raiseUsageError .finalAfterFinal s := by simp only [finalEffect, h]

/-- A byte accepted in ABSORB raises no error (R161). -/
theorem updateEffect_errors (data : Byte) {s : State} (h : s.PHASE = .absorb) :
    (updateEffect data s).ERR = s.ERR ∧ (updateEffect data s).ERRCODE = s.ERRCODE ∧
    (updateEffect data s).EVERERR = s.EVERERR := by
  rw [updateEffect_absorb data s h]; simp

theorem finalEffect_errors {s : State} (h : s.PHASE = .absorb) :
    (finalEffect s).ERR = s.ERR ∧ (finalEffect s).ERRCODE = s.ERRCODE ∧ (finalEffect s).EVERERR = s.EVERERR := by
  rw [finalEffect_absorb s h]; simp

/-- With nothing driven the engine comes from s to a ready state that the computation c leaves, within the steps that the script
runner allows. -/
def LeadsTo (s : State) (c : HostView) : Prop := ∃ n ≤ busyBound, ∃ t, Host.Core.run core n s = .next t ∧ Shows c t

theorem Shows.leadsTo {c : HostView} {s : State} (h : Shows c s) : LeadsTo s c := ⟨0, Nat.zero_le _, s, rfl, h⟩

theorem Shows.leadsTo_update {c : HostView} {s : State} (h : Shows c s) (hp : s.PORT = []) (v : Byte) :
    LeadsTo (updateEffect v s) (c.accept (.update v)) := by
  cases hf : c.finished with
  | true =>
    rw [updateEffect_done v (h.digest hf).1, HostView.accept, if_pos hf]
    exact (h.raise _).leadsTo
  | false =>
    have ha := h.absorbing hf
    obtain ⟨n, hn, t, hrun, hnext⟩ := ha.run_updateEffect v
    obtain ⟨herr, hcode⟩ := run_errors_eq ((updateEffect_PORT v s).trans hp) hrun
    obtain ⟨herr', hcode', -⟩ := updateEffect_errors v ha.phase
    rw [HostView.accept, if_neg (by simp [hf])]
    exact ⟨n, hn, t, hrun, {
      ready := hnext.seq
      err := herr.trans (herr'.trans h.err)
      code := hcode.trans (hcode'.trans h.code)
      absorbing := fun _ => hnext
      digest := fun hfin => absurd hfin (by simp [hf]) }⟩

theorem Shows.leadsTo_final {c : HostView} {s : State} (h : Shows c s) (hp : s.PORT = []) (data : Byte) :
    LeadsTo (finalEffect s) (c.accept (.final data)) := by
  cases hf : c.finished with
  | true =>
    rw [finalEffect_done (h.digest hf).1, HostView.accept, if_pos hf]
    exact (h.raise _).leadsTo
  | false =>
    have ha := h.absorbing hf
    obtain ⟨n, hn, t, hrun, hready, hdone, hquad⟩ := ha.run_finalEffect
    obtain ⟨herr, hcode⟩ := run_errors_eq ((finalEffect_PORT s).trans hp) hrun
    obtain ⟨herr', hcode', -⟩ := finalEffect_errors ha.phase
    rw [HostView.accept, if_neg (by simp [hf])]
    exact ⟨n, hn, t, hrun, {
      ready := hready
      err := herr.trans (herr'.trans h.err)
      code := hcode.trans (hcode'.trans h.code)
      absorbing := nofun
      digest := fun _ => ⟨hdone, hquad⟩ }⟩

/-- Every command word is taken as the computation takes it (R130 to R134). -/
theorem Shows.exec_command {c : HostView} {s : State} (h : Shows c s) (hp : s.PORT = []) (word : BitVec 10) :
    ∃ u, exec (decodeCmd word) s = .next u ∧ u.PORT = [] ∧ LeadsTo u (c.accept (decodeCmd word)) := by
  rcases decodeCmd_cases word with ⟨d, hd⟩ | ⟨d, hd⟩ | ⟨d, hd⟩ | ⟨d, hd⟩ <;> rw [hd]
  · exact ⟨_, exec_rsvd d s h.ready, hp, (h.raise _).leadsTo⟩
  · exact ⟨_, exec_init d s h.ready, hp, (shows_initEffect hp h.ready).leadsTo⟩
  · exact ⟨_, exec_update d s h.ready, (updateEffect_PORT d s).trans hp, h.leadsTo_update hp d⟩
  · exact ⟨_, exec_final d s h.ready, (finalEffect_PORT s).trans hp, h.leadsTo_final hp d⟩

/-! ### The lines of a script (R67) -/

theorem input_of_word {line : ScriptLine} {word : BitVec 10} (hw : line.word = some word) :
    ScriptLine.input line = ⟨false, true, word⟩ := by
  cases line with
  | reset => cases hw
  | init | update | final | rsvd => simp only [ScriptLine.input, hw]

/-- A line without a command word drives nothing. -/
theorem runLine_no_word {line : ScriptLine} (hl : line ≠ .reset) (hw : line.word = none) {s : State} (hs : s.SEQ = .ready) :
    runLine line s = .next { s with PORT := [] } := by
  have hin : ScriptLine.input line = PortInput.idle := by
    cases line with
    | reset => contradiction
    | init | update | final | rsvd => simp only [ScriptLine.input, hw]
  have hstep : step { s with PORT := [PortInput.idle] } = .next { s with PORT := [] } :=
    step_none _ rfl (by simp [State.selected, hs, State.input, PortInput.idle])
  simp only [runLine_of_ready line s hs, driveLine, hin, hstep]
  exact runToReady_ready busyBound { s with PORT := [] } hs

theorem runLine_of_leadsTo {line : ScriptLine} {word : BitVec 10} (hw : line.word = some word) {s u : State} {c : HostView}
    (hs : s.SEQ = .ready) (hu : exec (decodeCmd word) { s with PORT := [] } = .next u) (hp : u.PORT = [])
    (h : LeadsTo u c) : ∃ t, runLine line s = .next t ∧ Shows c t := by
  obtain ⟨n, hn, t, hrun, ht⟩ := h
  exact ⟨t, (runLine_command line word s u (input_of_word hw) hs hu).trans (runToReady_of_run hp hrun ht.ready hn), ht⟩

theorem Shows.runLine {c : HostView} {s : State} (h : Shows c s) {line : ScriptLine} (hl : line ≠ .reset) :
    ∃ t, runLine line s = .next t ∧ Shows (c.afterLine line) t := by
  unfold HostView.afterLine
  cases hw : line.word with
  | none => exact ⟨_, runLine_no_word hl hw h.ready, h.clearPort⟩
  | some word =>
    obtain ⟨u, hu, hp, hlead⟩ := h.clearPort.exec_command rfl word
    exact runLine_of_leadsTo hw h.ready hu hp hlead

/-- INIT begins a computation from every ready state (R131). -/
theorem runLine_init_shows {s : State} (hs : s.SEQ = .ready) : ∃ t, Machine.runLine .init s = .next t ∧ Shows .start t :=
  runLine_of_leadsTo (word := 0x100) rfl hs (exec_init 0 { s with PORT := [] } hs) rfl
    (shows_initEffect (s := { s with PORT := [] }) rfl hs).leadsTo

theorem runScript_cons {line : ScriptLine} {rest : List ScriptLine} {s t : State} (h : Machine.runLine line s = .next t) :
    runScript (line :: rest) s = runScript rest t := by
  simp [runScript, h]

theorem Shows.runScript {c : HostView} {s : State} (h : Shows c s) {script : List ScriptLine} (hl : .reset ∉ script) :
    ∃ t, runScript script s = .next t ∧ Shows (script.foldl HostView.afterLine c) t := by
  induction script generalizing c s with
  | nil => exact ⟨s, rfl, h⟩
  | cons line rest ih =>
    rw [List.mem_cons, not_or] at hl
    obtain ⟨u, hu, hshow⟩ := h.runLine (Ne.symm hl.1)
    rw [runScript_cons hu]
    exact ih hshow hl.2

/-- A script that begins with INIT, from any ready state, leaves what its lines make of a new computation. -/
theorem runScript_init_shows {s : State} (hs : s.SEQ = .ready) {script : List ScriptLine} (hl : .reset ∉ script) :
    ∃ t, runScript (.init :: script) s = .next t ∧ Shows (script.foldl HostView.afterLine .start) t := by
  obtain ⟨u, hu, hshow⟩ := runLine_init_shows hs
  rw [runScript_cons hu]
  exact hshow.runScript hl

/-! ### STATUS and DIGEST of a computation -/

theorem Shows.readDigest {c : HostView} {s : State} (h : Shows c s) :
    s.readDigest = if c.finished then .ok (md5 c.message) else .error .digestUnspecified := by
  split
  · obtain ⟨hdone, hquad⟩ := h.digest ‹_›
    rw [State.readDigest_done hdone, hquad, md5]
  · exact State.readDigest_not_done (by simp [(h.absorbing (eq_false_of_ne_true ‹_›)).phase])

/-- PHASE and SEQ by themselves, beside ERR and ERRCODE, decide STATUS (R21). -/
theorem status_congr {s u : State} (hphase : s.PHASE = u.PHASE) (hseq : s.SEQ = u.SEQ) (herr : s.ERR = u.ERR)
    (hcode : s.ERRCODE = u.ERRCODE) : s.status = u.status := by
  simp only [State.status, State.done, State.rdy, hphase, hseq, herr, hcode]

theorem Shows.phase {c : HostView} {s : State} (h : Shows c s) : s.PHASE = if c.finished then .done else .absorb := by
  split
  · exact (h.digest ‹_›).1
  · exact (h.absorbing (eq_false_of_ne_true ‹_›)).phase

theorem Shows.status_eq {c : HostView} {s u : State} (h : Shows c s) (hu : Shows c u) : s.status = u.status :=
  status_congr (h.phase.trans hu.phase.symm) (h.ready.trans hu.ready.symm) (h.err.trans hu.err.symm)
    (h.code.trans hu.code.symm)

/-- Settles O59: the lines after INIT decide the computation, and the computation decides STATUS and DIGEST. -/
theorem initForgetsEarlierComputations : Obligations.InitForgetsEarlierComputations := by
  intro s u script hs hu hl
  obtain ⟨s', hs', hshow⟩ := runScript_init_shows hs hl
  obtain ⟨u', hu', hshow'⟩ := runScript_init_shows hu hl
  exact ⟨s', u', hs', hu', hshow.status_eq hshow', hshow.readDigest.trans hshow'.readDigest.symm⟩

/-! ### The scripts of the software surface (R68, R137 to R139) -/

theorem reset_not_mem_updateScript (m : List Byte) : .reset ∉ updateScript m := by simp [updateScript]

theorem word_update_number (v : Byte) : (ScriptLine.update (.number v.toNat)).word = some (commandWord 0b10#2 v) := by
  simp [ScriptLine.word, ByteOperand.byte, ByteOperand.wellFormed, ByteOperand.value, v.isLt]

theorem afterLine_update {c : HostView} (hf : c.finished = false) (v : Byte) :
    c.afterLine (.update (.number v.toNat)) = { c with message := c.message ++ [v] } := by
  have hdecode : decodeCmd (commandWord 0b10#2 v) = .update v := Laws.RoundTrip.update v
  simp [HostView.afterLine, word_update_number, hdecode, HostView.accept, hf]

/-- The UPDATEs of a message append it. -/
theorem foldl_updateScript (m : List Byte) {c : HostView} (hf : c.finished = false) :
    (updateScript m).foldl HostView.afterLine c = { c with message := c.message ++ m } := by
  induction m generalizing c with
  | nil => simp [updateScript]
  | cons v m ih =>
    rw [updateScript, List.map_cons, List.foldl_cons, afterLine_update hf, ← updateScript,
      ih (c := { c with message := c.message ++ [v] }) hf, List.append_assoc]
    rfl

/-- Settles O56: the UPDATEs make m the message of the computation that INIT began. -/
theorem absorbedMessageState : Obligations.AbsorbedMessageState := by
  intro s m hs
  obtain ⟨t, ht, hshow⟩ := runScript_init_shows hs (reset_not_mem_updateScript m)
  rw [foldl_updateScript m rfl] at hshow
  have h : Absorbing m t := hshow.absorbing rfl
  exact ⟨t, ht, h.phase, h.seq, h.length, h.count, h.bytes, h.chained⟩

theorem runScript_hashScript {s : State} (hs : s.SEQ = .ready) (m : List Byte) :
    ∃ t, runScript (hashScript m) s = .next t ∧ Shows ⟨m, true, false, .none⟩ t := by
  obtain ⟨t, ht, hshow⟩ := runScript_init_shows (script := updateScript m ++ finalizeScript) hs
    (by simp [reset_not_mem_updateScript, finalizeScript])
  rw [List.foldl_append, foldl_updateScript m rfl] at hshow
  exact ⟨t, ht, hshow⟩

/-- Settles O57: FINAL finishes the computation with the message m, without an error. -/
theorem hashYieldsMd5Digest : Obligations.HashYieldsMd5Digest := by
  intro s m hs
  obtain ⟨t, ht, h⟩ := runScript_hashScript hs m
  have hstatus : t.status = 0x13 := by
    simp only [State.status, State.done, State.rdy, h.phase, h.ready, h.err, h.code]; decide
  exact ⟨t, ht, h.phase, h.ready, hstatus, h.readDigest, digestBytes_length _⟩

/-- One `update` a chunk drives the same lines as one `update` with all of them (R68). -/
theorem streamingScript_eq_hashScript (chunks : List (List Byte)) : streamingScript chunks = hashScript chunks.flatten := by
  have hlines : chunks.flatMap updateScript = updateScript chunks.flatten := by
    rw [updateScript, List.map_flatten, List.flatMap_def]; rfl
  rw [streamingScript, hashScript, hlines]

/-- Settles O58: both are the same script, and it gives MD5 of its message. -/
theorem streamingEquivalence : Obligations.StreamingEquivalence := by
  intro s chunks hs
  rw [streamingScript_eq_hashScript]
  obtain ⟨t, ht, h⟩ := runScript_hashScript hs chunks.flatten
  refine ⟨?_, rfl⟩
  simp only [runAndRead, ht, h.readDigest]
  rfl

end Sys2Proof.Machine
end

section
/-! SUPPORT. The handshake and the sequencer: which instruction a step runs (R130, R135), and where it leads (R136). -/

namespace Sys2Proof.Machine

/-! ### The instruction of a step (R130, R135) -/

/-- Settles O8: the step is exec of the selected instruction; selection is by SEQ. -/
theorem stepRunsSelectedInstruction : Obligations.StepRunsSelectedInstruction := by
  intro s hr
  refine ⟨fun selector => step_some s selector hr, fun hs hv => ?_, fun hs hv => ?_, selected_op s, selected_chain s,
    selected_pad s⟩
  · rw [selected_ready s hs, hv]; rfl
  · rw [selected_ready s hs, hv]; rfl

/-- The sequencer of a busy engine selects without the command port (R135). -/
theorem exists_selected_of_busy {s : State} (hs : s.SEQ ≠ .ready) :
    ∃ selector, ∀ port, State.selected { s with PORT := port } = some selector := by
  cases h : s.SEQ with
  | ready => contradiction
  | op => exact ⟨.step s.T, fun _ => rfl⟩
  | chain => exact ⟨.chain, fun _ => rfl⟩
  | pad => exact ⟨.pad s.CNT, fun _ => rfl⟩

/-- Whatever a host that asserts no Reset presents to a busy engine, the step is the same (R130). -/
theorem step_busy_congr {s : State} (hs : s.SEQ ≠ .ready) {p q : PortInput} (hp : p.reset = false) (hq : q.reset = false)
    (rest : List PortInput) : step { s with PORT := p :: rest } = step { s with PORT := q :: rest } := by
  obtain ⟨selector, hsel⟩ := exists_selected_of_busy hs
  exact (step_some { s with PORT := p :: rest } selector hp (hsel _)).trans
    (step_some { s with PORT := q :: rest } selector hq (hsel _)).symm

/-- Settles O9: a ready engine selects the presented word, a busy one selects without it, and every step uses it up. -/
theorem commandsAcceptedExactlyWhenReady : Obligations.CommandsAcceptedExactlyWhenReady := by
  refine ⟨fun s word rest hs => ?_, fun s word rest hs => ?_, fun s valid word rest hs => ⟨?_, fun t ht => ?_⟩⟩
  · exact step_some _ _ rfl (selected_ready _ hs)
  · exact step_none _ rfl (selected_ready _ hs)
  · exact step_busy_congr hs rfl rfl rest
  · exact step_PORT _ t ht

/-- Settles O10: each micro-step by its selector; no command is accepted in it, so the error flags and LEN stay. -/
theorem microStepDispatch : Obligations.MicroStepDispatch := by
  intro s hr hs
  refine ⟨fun row hrow hop hT => ?_, fun hchain => step_some s _ hr (selected_chain s hchain), fun hpad hc => ?_,
    fun hpad hc => ?_, fun t ht => (step_cases s t ht).errors_eq hr (accepted_busy s hs)⟩
  · obtain ⟨hinstr, -⟩ := schedule_row row hrow
    rw [step_some s _ hr (selected_op s hop), hT, decode, hinstr]
  · rw [step_some s _ hr (selected_pad s hpad), decode, decodePad, if_pos hc]
  · rw [step_some s _ hr (selected_pad s hpad), decode, decodePad, if_neg hc]

/-- Settles O11: a command is not accepted in a busy state, and a micro-step is not selected elsewhere. -/
theorem instructionNotEnabledChangesNothing : Obligations.InstructionNotEnabledChangesNothing := by
  intro s
  refine ⟨fun hs data => ⟨accept_busy _ _ hs, accept_busy _ _ hs, accept_busy _ _ hs, accept_busy _ _ hs⟩,
    fun row hrow h => ?_, fun h => ?_, fun h => ?_, fun h => ?_⟩
  · rw [exec_row row hrow, execOp_disabled _ _ _ _ (not_and_or.mpr h)]
  · have hsel : (s.SEQ == .chain) = false := beq_eq_false_iff_ne.mpr h
    rw [exec, execChain, hsel, whenSelected_false]
  · have hsel : (s.SEQ == .pad && s.CNT != 56) = false := by
      rcases h with h | h
      · rw [beq_eq_false_iff_ne.mpr h, Bool.false_and]
      · rw [h, bne_self_eq_false, Bool.and_false]
    rw [exec, execPadz, hsel, whenSelected_false]
  · have hsel : (s.SEQ == .pad && s.CNT == 56) = false := by
      rcases h with h | h
      · rw [beq_eq_false_iff_ne.mpr h, Bool.false_and]
      · rw [beq_eq_false_iff_ne.mpr h, Bool.and_false]
    rw [exec, execPadl, hsel, whenSelected_false]

/-! ### The model's loader (assumption log, entry 6) -/

theorem withFetchWord_command (s : State) {w : Nat} (hw : w < 1024) :
    s.withFetchWord 16 w = placeSelector (.cmd (BitVec.ofNat 10 w)) s := by
  simp [State.withFetchWord, selectorOfBits, hw]

theorem withFetchWord_index (s : State) {w : Nat} (hw : w < 64) :
    s.withFetchWord 8 w = placeSelector (.step (BitVec.ofNat 6 w)) s := by
  simp [State.withFetchWord, selectorOfBits, hw]

/-- The state that a placed operation runs at: every byte of the block can be read. -/
def placedOperation (index : BitVec 6) (s : State) : State :=
  { s with SEQ := .op, T := index, BUF := fillUnwritten s.BUF 64 }

theorem shiftInput_placeSelector_index (index : BitVec 6) (s : State) :
    (placeSelector (.step index) s).shiftInput = placedOperation index s := by
  simp only [placeSelector, State.shiftInput, placedOperation, List.tail_cons]

theorem step_placeSelector_index (index : BitVec 6) (s : State) :
    step (placeSelector (.step index) s) = exec (decode (.step index)) (placedOperation index s) := by
  rw [step_some (placeSelector (.step index) s) (.step index) rfl rfl, shiftInput_placeSelector_index]

theorem placedOperation_quad (index : BitVec 6) (s : State) : (placedOperation index s).quad = s.quad := by
  simp only [State.quad, placedOperation]

theorem exists_exec_placedOperation (index : BitVec 6) (s : State) :
    ∃ t, exec (decode (.step index)) (placedOperation index s) = .next t := by
  obtain ⟨m, hm⟩ := M_isOk (placedOperation index s).BUF (g index) fun k hk => by
    rw [placedOperation, lookup_fillUnwritten, if_pos hk]; rfl
  exact ⟨_, (exec_decodeStep index _).trans (execOp_ok _ _ _ _ m rfl rfl hm)⟩

theorem bufRead_placedOperation {index : BitVec 6} {s : State} {k : BitVec 6} {v : Byte} (h : bufRead s.BUF k = .ok v) :
    bufRead (placedOperation index s).BUF k = .ok v := by
  rw [bufRead_eq_ok] at h ⊢
  rw [placedOperation, lookup_fillUnwritten, if_pos k.isLt, h]; rfl

/-- Settles O12: the placed selector is the selected one, and an operation finds its block written. -/
theorem placedWordRunsNext : Obligations.PlacedWordRunsNext := by
  refine ⟨fun s w hw => ?_, fun s w hw => ⟨placedOperation (BitVec.ofNat 6 w) s, ?_⟩⟩
  · rw [withFetchWord_command s hw]
    exact step_some (placeSelector (.cmd (BitVec.ofNat 10 w)) s) (.cmd (BitVec.ofNat 10 w)) rfl rfl
  · rw [withFetchWord_index s hw, step_placeSelector_index]
    exact ⟨rfl, rfl, rfl, placedOperation_quad _ s, fun k v => bufRead_placedOperation,
      exists_exec_placedOperation _ s⟩

/-! ### The table of R136 -/

theorem updateEffect_SEQ (data : Byte) (s : State) :
    (updateEffect data s).SEQ = if s.PHASE = .absorb ∧ s.CNT = 63 then .op else s.SEQ := by
  by_cases hp : s.PHASE = .absorb
  · rw [updateEffect_absorb data s hp, appendByte_SEQ]; simp [hp]
  · obtain ⟨code, e⟩ := updateEffect_rejected data s hp
    rw [e, if_neg fun h => hp h.1]; rfl

theorem finalEffect_SEQ (s : State) :
    (finalEffect s).SEQ = if s.PHASE = .absorb then (if s.CNT = 63 then .op else .pad) else s.SEQ := by
  by_cases hp : s.PHASE = .absorb
  · rw [finalEffect_absorb s hp, appendByte_SEQ, if_pos hp]
  · obtain ⟨code, e⟩ := finalEffect_rejected s hp
    rw [e, if_neg hp]; rfl

theorem StepCase.pair_eq_nextPair {s t : State} (hc : StepCase s t) : (t.PHASE, t.SEQ) = Safety.nextPair s := by
  cases hc with
  | reset h e => simp [Safety.nextPair, h, e]
  | waits h hs hv e => simp [Safety.nextPair, h, hs, accepted_invalid s hv, e]
  | rsvd h hs _ ha e => simp [Safety.nextPair, h, hs, ha, e]
  | init h hs _ ha e => simp [Safety.nextPair, h, hs, ha, e, initEffect]
  | update h hs data ha e =>
    simp only [Safety.nextPair, h, hs, ha, e, updateEffect_PHASE, updateEffect_SEQ]
    by_cases hp : s.PHASE = .absorb <;> simp [hp, hs]
  | final h hs _ ha e =>
    simp only [Safety.nextPair, h, hs, ha, e, finalEffect_PHASE, finalEffect_SEQ]
    by_cases hp : s.PHASE = .absorb
    · exact (congrArg₂ _ hp (if_pos hp)).trans (if_pos hp).symm
    · exact (congrArg _ ((if_neg hp).trans hs)).trans (if_neg hp).symm
  | op h hs m _ e => simp [Safety.nextPair, h, hs, e, opResult_SEQ]
  | chain h hs e =>
    simp only [Safety.nextPair, h, hs, e, afterChain_PHASE, afterChain_SEQ]
    cases hf : s.FIN <;> cases hl : s.LAST <;> simp [hf, hl]
  | padz h hs hcnt e =>
    simp only [Safety.nextPair, h, hs, e, appendByte_PHASE, appendByte_SEQ, State.shiftInput_PHASE, State.shiftInput_CNT,
      State.shiftInput_SEQ, hcnt, or_false, Bool.false_eq_true, if_false]
  | padl h hs hcnt e => simp [Safety.nextPair, h, hs, e, padlEffect, hcnt]

/-- A step leads from a listed pair to listed pairs only. -/
theorem StepCase.legalPair {s t : State} (hc : StepCase s t) (h : Safety.legalPair s.PHASE s.SEQ = true) :
    Safety.legalPair t.PHASE t.SEQ = true := by
  rw [Safety.legalPair_iff] at h ⊢
  cases hc with
  | reset _ e => exact .inr (by rw [e]; rfl)
  | waits _ _ _ e | rsvd _ _ _ _ e => rw [e]; exact h
  | init _ _ _ _ e => exact .inl (by rw [e]; rfl)
  | update _ hs data _ e =>
    rw [e, updateEffect_PHASE, updateEffect_SEQ]
    by_cases hp : s.PHASE = .absorb
    · exact .inl hp
    · exact .inr ((if_neg fun hc => hp hc.1).trans hs)
  | final _ hs _ _ e =>
    rw [e, finalEffect_PHASE, finalEffect_SEQ]
    by_cases hp : s.PHASE = .absorb
    · exact .inl hp
    · exact .inr ((if_neg hp).trans hs)
  | op _ hs m _ e => rw [e, opResult_PHASE]; exact .inl (h.resolve_right (by simp [hs]))
  | chain _ hs e =>
    have hp : s.PHASE = .absorb := h.resolve_right (by simp [hs])
    rw [e, afterChain_PHASE, afterChain_SEQ]
    cases hf : s.FIN <;> cases hl : s.LAST <;> simp [hf, hl, hp]
  | padz _ hs _ e => rw [e, appendByte_PHASE]; exact .inl (h.resolve_right (by simp [hs]))
  | padl _ hs _ e => rw [e]; exact .inl (h.resolve_right (by simp [hs]))

/-- T counts on below operation 63 (R107). -/
theorem StepCase.T_succ {s t : State} (hc : StepCase s t) (hr : s.input.reset = false) (hs : s.SEQ = .op) (hT : s.T ≠ 63) :
    t.T = s.T + 1 := by
  cases hc with
  | reset h => rw [hr] at h; contradiction
  | op _ _ m _ e => rw [e, opResult_T, if_neg hT]
  | waits _ h | rsvd _ h | init _ h | update _ h | final _ h | chain _ h | padz _ h | padl _ h => rw [hs] at h; contradiction

/-- The length-field step marks the last block (R86). -/
theorem StepCase.LAST_of_padl {s t : State} (hc : StepCase s t) (hr : s.input.reset = false) (hs : s.SEQ = .pad)
    (hcnt : s.CNT = 56) : t.LAST = true := by
  cases hc with
  | reset h => rw [hr] at h; contradiction
  | padl _ _ _ e => rw [e]; rfl
  | padz _ _ h => contradiction
  | waits _ h | rsvd _ h | init _ h | update _ h | final _ h | op _ h | chain _ h => rw [hs] at h; contradiction

/-- Settles O36: the pair after each effect a step can have is the table's; T and LAST by the effects that write them. -/
theorem controlFlowFollowsTable : Obligations.ControlFlowFollowsTable := by
  intro s t ht
  have hc := step_cases s t ht
  refine ⟨hc.pair_eq_nextPair, fun hr hs hop => ?_, hc.T_succ, hc.LAST_of_padl, hc.legalPair, by decide⟩
  obtain ⟨-, -, hT, -⟩ := (savesAtBlockStart_of_stepCase hr hc).start hs hop
  exact hT

end Sys2Proof.Machine
end

section
/-! SUPPORT. The commands one by one (R131 to R134), and what the instructions that store a byte and those that store none leave
unchanged (R85, R109, R131 to R134). -/

namespace Sys2Proof.Machine

/-! ### INIT and RSVD (R131, R134) -/

/-- Settles O13: INIT writes constants only, so that writing them twice is writing them once. -/
theorem initStartsComputation : Obligations.InitStartsComputation := by
  intro data s hs
  exact ⟨initEffect s, exec_init data s hs, rfl, exec_init data (initEffect s) hs⟩

/-- Settles O16: the op field 0b00 decodes to RSVD, whose effect is the usage error alone. -/
theorem reservedCommandRaisesUsageError : Obligations.ReservedCommandRaisesUsageError :=
  ⟨Laws.RoundTrip.rsvd, exec_rsvd⟩

/-! ### UPDATE and FINAL (R132, R133) -/

theorem updateEffect_idle (data : Byte) {s : State} (h : s.PHASE = .idle) :
    updateEffect data s = raiseUsageError .noComputation s := by simp only [updateEffect, h]

theorem finalEffect_idle {s : State} (h : s.PHASE = .idle) :
    finalEffect s = raiseUsageError .noComputation s := by simp only [finalEffect, h]

/-- The appended byte reads back at the CNT before. -/
theorem bufRead_appendByte_CNT (v : Byte) (s : State) : bufRead (appendByte v s).BUF s.CNT = .ok v := by
  rw [appendByte_BUF, bufRead_bufWrite_same]

/-- The state after a byte is appended within a block. -/
theorem appendByte_inner_memWrite (v : Byte) (s : State) (h : s.CNT ≠ 63) :
    appendByte v s = { s with BUF := memWrite s.BUF s.CNT 1 v.toNat, CNT := s.CNT + 1 } := by
  rw [appendByte_inner v s h, memWrite_one]

/-- The state after the last byte of a block is appended (R108). -/
theorem appendByte_last_memWrite (v : Byte) (s : State) (h : s.CNT = 63) :
    appendByte v s = startBlock { s with BUF := memWrite s.BUF 63 1 v.toNat, CNT := 0 } := by
  rw [appendByte_last v s h, memWrite_one, h]

/-- Settles O14: in ABSORB the byte is counted and appended, elsewhere the usage error is raised. -/
theorem updateAbsorbsOneByte : Obligations.UpdateAbsorbsOneByte := by
  intro data s hs
  rw [exec_update data s hs]
  refine ⟨fun hp => ⟨_, rfl, ?_⟩, fun hp h63 => congrArg _ ?_, fun hp h63 => congrArg _ ?_,
    fun hp => congrArg _ (updateEffect_done data hp), fun hp => congrArg _ (updateEffect_idle data hp)⟩
  all_goals rw [updateEffect_absorb data s hp]
  · exact ⟨bufRead_appendByte_CNT data (countByte s), appendByte_LEN .., appendByte_CNT .., (appendByte_PHASE ..).trans hp,
      by rw [appendByte_SEQ, hs]⟩
  · exact appendByte_inner_memWrite data (countByte s) h63
  · exact appendByte_last_memWrite data (countByte s) h63

/-- Settles O15: in ABSORB the marker is appended in a state that is set for padding, elsewhere the usage error is raised. -/
theorem finalStartsPadding : Obligations.FinalStartsPadding := by
  intro data s hs
  rw [exec_final data s hs]
  refine ⟨fun hp => ⟨_, rfl, ?_⟩, fun hp h63 => congrArg _ ?_, fun hp h63 => congrArg _ ?_,
    fun hp => congrArg _ (finalEffect_done hp), fun hp => congrArg _ (finalEffect_idle hp)⟩
  all_goals rw [finalEffect_absorb s hp]
  · exact ⟨bufRead_appendByte_CNT 0x80 (markFinal s), appendByte_LEN .., appendByte_CNT .., (appendByte_PHASE ..).trans hp,
      appendByte_FIN .., appendByte_LAST .., appendByte_SEQ ..⟩
  · exact appendByte_inner_memWrite 0x80 (markFinal s) h63
  · exact appendByte_last_memWrite 0x80 (markFinal s) h63

/-! ### An instruction has its effect or changes nothing (R130, R135) -/

theorem accept_next {s e t : State} (h : accept s e = .next t) : t = e ∨ t = s := by
  cases h
  by_cases hs : s.SEQ = .ready
  · exact .inl (if_pos hs)
  · exact .inr (if_neg hs)

theorem whenSelected_next {selected : Bool} {e s t : State} (h : whenSelected selected e s = .next t) : t = e ∨ t = s := by
  cases selected <;> cases h
  · exact .inr rfl
  · exact .inl rfl

theorem exec_update_next {data : Byte} {s t : State} (h : exec (.update data) s = .next t) :
    t = updateEffect data s ∨ t = s := accept_next h

theorem exec_final_next {data : Byte} {s t : State} (h : exec (.final data) s = .next t) :
    t = finalEffect s ∨ t = s := accept_next h

theorem exec_init_next {data : Byte} {s t : State} (h : exec (.init data) s = .next t) :
    t = initEffect s ∨ t = s := accept_next h

theorem exec_rsvd_next {data : Byte} {s t : State} (h : exec (.rsvd data) s = .next t) :
    t = raiseUsageError .reservedCommand s ∨ t = s := accept_next h

theorem exec_padz_next {s t : State} (h : exec .padz s = .next t) : t = appendByte 0x00 s ∨ t = s := whenSelected_next h

theorem exec_chain_next {s t : State} (h : exec .chain s = .next t) :
    t = afterChain (s.withQuad (s.quad.add s.savedQuad)) ∨ t = s := whenSelected_next h

/-! ### Storing one byte (R46, R85, R132, R133) -/

/-- What storing a byte at CNT leaves unchanged, beside what a block start writes. -/
structure StoreFrame (s t : State) : Prop where
  quad : t.quad = s.quad
  phase : t.PHASE = s.PHASE
  port : t.PORT = s.PORT
  draws : t.DRAWS = s.DRAWS
  bytes : ∀ a : BitVec 6, a ≠ s.CNT → bufRead t.BUF a = bufRead s.BUF a
  savedQuad : s.CNT ≠ 63 → t.savedQuad = s.savedQuad
  index : s.CNT ≠ 63 → t.T = s.T

theorem storeFrame_refl (s : State) : StoreFrame s s := ⟨rfl, rfl, rfl, rfl, fun _ _ => rfl, fun _ => rfl, fun _ => rfl⟩

theorem storeFrame_raiseUsageError (code : Cause) (s : State) : StoreFrame s (raiseUsageError code s) :=
  ⟨rfl, rfl, rfl, rfl, fun _ _ => rfl, fun _ => rfl, fun _ => rfl⟩

theorem storeFrame_appendByte (v : Byte) (s : State) : StoreFrame s (appendByte v s) where
  quad := appendByte_quad v s
  phase := appendByte_PHASE v s
  port := appendByte_PORT v s
  draws := appendByte_DRAWS v s
  bytes a ha := by rw [appendByte_BUF, bufRead_bufWrite_other _ _ _ _ ha]
  savedQuad h63 := by rw [appendByte_savedQuad, if_neg h63]
  index h63 := by rw [appendByte_T, if_neg h63]

theorem storeFrame_updateEffect (data : Byte) (s : State) : StoreFrame s (updateEffect data s) := by
  by_cases hp : s.PHASE = .absorb
  · rw [updateEffect_absorb data s hp]
    exact { storeFrame_appendByte data (countByte s) with }
  · obtain ⟨code, e⟩ := updateEffect_rejected data s hp
    rw [e]; exact storeFrame_raiseUsageError code s

theorem storeFrame_finalEffect (s : State) : StoreFrame s (finalEffect s) := by
  by_cases hp : s.PHASE = .absorb
  · rw [finalEffect_absorb s hp]
    exact { storeFrame_appendByte 0x80 (markFinal s) with }
  · obtain ⟨code, e⟩ := finalEffect_rejected s hp
    rw [e]; exact storeFrame_raiseUsageError code s

@[simp] theorem updateEffect_FIN (data : Byte) (s : State) : (updateEffect data s).FIN = s.FIN := by
  unfold updateEffect; split <;> simp

@[simp] theorem updateEffect_LAST (data : Byte) (s : State) : (updateEffect data s).LAST = s.LAST := by
  unfold updateEffect; split <;> simp

/-- The frame of i, one of UPDATE, FINAL and PADZ: that of the byte it stores, and the control fields and flags it does not
write. -/
structure ByteInstrFrame (data : Byte) (i : Instr) (s t : State) : Prop extends StoreFrame s t where
  seq : s.CNT ≠ 63 → i ≠ .final data → t.SEQ = s.SEQ
  length : i ≠ .update data → t.LEN = s.LEN
  flags : i ≠ .final data → t.FIN = s.FIN ∧ t.LAST = s.LAST
  errors : s.PHASE = .absorb ∨ i = .padz → t.ERR = s.ERR ∧ t.ERRCODE = s.ERRCODE ∧ t.EVERERR = s.EVERERR

theorem byteInstrFrame_refl (data : Byte) (i : Instr) (s : State) : ByteInstrFrame data i s s :=
  ⟨storeFrame_refl s, fun _ _ => rfl, fun _ => rfl, fun _ => ⟨rfl, rfl⟩, fun _ => ⟨rfl, rfl, rfl⟩⟩

theorem byteInstrFrame_updateEffect (data : Byte) (s : State) :
    ByteInstrFrame data (.update data) s (updateEffect data s) where
  toStoreFrame := storeFrame_updateEffect data s
  seq h63 _ := (updateEffect_SEQ data s).trans (if_neg fun hc => h63 hc.2)
  length hne := absurd rfl hne
  flags _ := ⟨updateEffect_FIN data s, updateEffect_LAST data s⟩
  errors hp := updateEffect_errors data (hp.resolve_right (by simp))

theorem byteInstrFrame_finalEffect (data : Byte) (s : State) : ByteInstrFrame data (.final data) s (finalEffect s) where
  toStoreFrame := storeFrame_finalEffect s
  seq _ hne := absurd rfl hne
  length _ := finalEffect_LEN s
  flags hne := absurd rfl hne
  errors hp := finalEffect_errors (hp.resolve_right (by simp))

theorem byteInstrFrame_padz (data : Byte) (s : State) : ByteInstrFrame data .padz s (appendByte 0x00 s) where
  toStoreFrame := storeFrame_appendByte 0x00 s
  seq h63 _ := (appendByte_SEQ 0x00 s).trans (if_neg h63)
  length _ := appendByte_LEN 0x00 s
  flags _ := ⟨appendByte_FIN 0x00 s, appendByte_LAST 0x00 s⟩
  errors _ := ⟨appendByte_ERR 0x00 s, appendByte_ERRCODE 0x00 s, appendByte_EVERERR 0x00 s⟩

theorem byteInstrFrame_of_exec {data : Byte} {i : Instr} (hi : i = .update data ∨ i = .final data ∨ i = .padz) {s t : State}
    (h : exec i s = .next t) : ByteInstrFrame data i s t := by
  rcases hi with rfl | rfl | rfl
  · obtain rfl | rfl := exec_update_next h
    · exact byteInstrFrame_updateEffect data s
    · exact byteInstrFrame_refl ..
  · obtain rfl | rfl := exec_final_next h
    · exact byteInstrFrame_finalEffect data s
    · exact byteInstrFrame_refl ..
  · obtain rfl | rfl := exec_padz_next h
    · exact byteInstrFrame_padz data s
    · exact byteInstrFrame_refl ..

/-- Settles O30: each of the three has its effect or changes nothing, and both have the frame. -/
theorem byteStoringInstructionsFrame : Obligations.ByteStoringInstructionsFrame := by
  intro data i hi s t h
  have hframe := byteInstrFrame_of_exec hi h
  exact ⟨hframe.quad, hframe.phase, hframe.port, hframe.draws, hframe.bytes,
    fun h63 => ⟨hframe.savedQuad h63, hframe.index h63, hframe.seq h63⟩, hframe.length, hframe.flags, hframe.errors⟩

/-! ### Storing nothing (R109, R131, R134) -/

/-- What INIT, RSVD and CHAIN leave unchanged. -/
structure NoStoreFrame (s t : State) : Prop where
  buffer : t.BUF = s.BUF
  savedQuad : t.savedQuad = s.savedQuad
  index : t.T = s.T
  port : t.PORT = s.PORT
  draws : t.DRAWS = s.DRAWS

theorem noStoreFrame_chain (s : State) (w : Quad) : NoStoreFrame s (afterChain (s.withQuad w)) :=
  ⟨afterChain_BUF _, afterChain_savedQuad _, afterChain_T _, afterChain_PORT _, afterChain_DRAWS _⟩

theorem noStoreFrame_of_exec {data : Byte} {i : Instr} (hi : i = .init data ∨ i = .rsvd data ∨ i = .chain) {s t : State}
    (h : exec i s = .next t) : NoStoreFrame s t := by
  rcases hi with rfl | rfl | rfl
  · obtain rfl | rfl := exec_init_next h <;> exact ⟨rfl, rfl, rfl, rfl, rfl⟩
  · obtain rfl | rfl := exec_rsvd_next h <;> exact ⟨rfl, rfl, rfl, rfl, rfl⟩
  · obtain rfl | rfl := exec_chain_next h
    · exact noStoreFrame_chain s _
    · exact ⟨rfl, rfl, rfl, rfl, rfl⟩

/-- Settles O32: the three have their effect or change nothing, and none of the effects writes BUF. -/
theorem nonStoringInstructionsFrame : Obligations.NonStoringInstructionsFrame := by
  refine ⟨fun data i hi s t h => ?_, fun data s t h => ?_, fun data s t h => ?_, fun s t h => ?_⟩
  · obtain ⟨hbuf, hsaved, hindex, hport, hdraws⟩ := noStoreFrame_of_exec hi h
    exact ⟨hbuf, fun a => by rw [hbuf], hsaved, hindex, hport, hdraws⟩
  · obtain rfl | rfl := exec_rsvd_next h <;> rfl
  · obtain rfl | rfl := exec_init_next h <;> exact ⟨rfl, rfl⟩
  · obtain rfl | rfl := exec_chain_next h
    · exact ⟨afterChain_CNT _, afterChain_LEN _, afterChain_ERR _, afterChain_ERRCODE _, afterChain_EVERERR _⟩
    · exact ⟨rfl, rfl, rfl, rfl, rfl⟩

end Sys2Proof.Machine
end

section
/-! SUPPORT. Usage errors: what a listed command raises (R161, R162), and the three things a step can do to the error flags
(R160, R165). -/

namespace Sys2Proof.Machine

/-! ### The table of causes (R161) -/

/-- A listed command does no more than raise its cause. -/
theorem exec_of_causeOf {i : Instr} {s : State} {code : Cause} (hs : s.SEQ = .ready)
    (hcause : Safety.causeOf i s.PHASE = some code) : exec i s = .next (raiseUsageError code s) := by
  unfold Safety.causeOf at hcause
  split at hcause
  next data hp => cases hcause; rw [exec_update data s hs, updateEffect_done data hp]
  next data hp => cases hcause; rw [exec_final data s hs, finalEffect_done hp]
  next data hp => cases hcause; rw [exec_update data s hs, updateEffect_idle data hp]
  next data hp => cases hcause; rw [exec_final data s hs, finalEffect_idle hp]
  next data => cases hcause; exact exec_rsvd data s hs
  next => contradiction

theorem causeOf_ne_none {i : Instr} {p : Phase} {code : Cause} (h : Safety.causeOf i p = some code) : code ≠ .none := by
  unfold Safety.causeOf at h
  split at h <;> cases h <;> decide

theorem causeOf_init (data : Byte) (p : Phase) : Safety.causeOf (.init data) p = none := rfl

theorem readDigest_raiseUsageError (code : Cause) (s : State) : (raiseUsageError code s).readDigest = s.readDigest := rfl

/-- Settles O17: a listed command's effect is the usage error, which DIGEST does not see and STATUS shows. -/
theorem usageErrorRecordsFirstCause : Obligations.UsageErrorRecordsFirstCause := by
  intro i s code hs hcause
  refine ⟨raiseUsageError code s, exec_of_causeOf hs hcause, rfl, readDigest_raiseUsageError code s, status_err _,
    fun herr => ?_⟩
  rw [status_errcode, raiseUsageError_ERRCODE, herr]
  cases code <;> rfl

/-! ### The error flags in a step -/

/-- What a step can do to the error flags: Reset and INIT clear them, a listed command raises its cause, anything else keeps
them. -/
inductive ErrorCase (s t : State) : Prop where
  | cleared (h : s.input.reset = true ∨ Safety.AcceptsInit s) (err : t.ERR = false) (code : t.ERRCODE = .none)
      (record : t.EVERERR = s.EVERERR)
  | raised (i : Instr) (code : Cause) (ha : Safety.accepted s = some i) (hcause : Safety.causeOf i s.PHASE = some code)
      (e : t = raiseUsageError code s.shiftInput)
  | kept (hr : s.input.reset = false) (hinit : ¬ Safety.AcceptsInit s) (err : t.ERR = s.ERR) (code : t.ERRCODE = s.ERRCODE)
      (record : t.EVERERR = s.EVERERR)

theorem ErrorCase.of_errors_eq {s t : State} (hr : s.input.reset = false)
    (hinit : ∀ data, Safety.accepted s ≠ some (.init data))
    (h : t.ERR = s.ERR ∧ t.ERRCODE = s.ERRCODE ∧ t.EVERERR = s.EVERERR) : ErrorCase s t :=
  let ⟨herr, hcode, hrecord⟩ := h
  .kept hr (not_exists.mpr hinit) herr hcode hrecord

theorem not_reset_of_accepted {s : State} {i : Instr} (h : Safety.accepted s = some i) : s.input.reset = false := by
  unfold Safety.accepted at h
  split at h
  next hacc => exact hacc.1
  next => contradiction

theorem StepCase.errorCase_of_no_command {s t : State} (hc : StepCase s t) (hr : s.input.reset = false)
    (ha : Safety.accepted s = none) : ErrorCase s t := by
  obtain ⟨herr, hcode, hrecord, -⟩ := hc.errors_eq hr ha
  exact .of_errors_eq hr (by simp [ha]) ⟨herr, hcode, hrecord⟩

theorem StepCase.errorCase {s t : State} (hc : StepCase s t) : ErrorCase s t := by
  have hcase := hc
  cases hcase with
  | reset h e => exact .cleared (.inl h) (by rw [e]; rfl) (by rw [e]; rfl) (by rw [e]; rfl)
  | init _ _ data ha e => exact .cleared (.inr ⟨data, ha⟩) (by rw [e]; rfl) (by rw [e]; rfl) (by rw [e]; rfl)
  | rsvd _ _ _ ha e => exact .raised _ _ ha rfl e
  | update h _ data ha e =>
    cases hp : s.PHASE with
    | absorb => exact .of_errors_eq h (by simp [ha]) (e ▸ updateEffect_errors data (s := s.shiftInput) hp)
    | done => exact .raised _ _ ha (by rw [hp]; rfl) (e.trans (updateEffect_done data hp))
    | idle => exact .raised _ _ ha (by rw [hp]; rfl) (e.trans (updateEffect_idle data hp))
  | final h _ _ ha e =>
    cases hp : s.PHASE with
    | absorb => exact .of_errors_eq h (by simp [ha]) (e ▸ finalEffect_errors (s := s.shiftInput) hp)
    | done => exact .raised _ _ ha (by rw [hp]; rfl) (e.trans (finalEffect_done hp))
    | idle => exact .raised _ _ ha (by rw [hp]; rfl) (e.trans (finalEffect_idle hp))
  | waits h _ hv => exact hc.errorCase_of_no_command h (accepted_invalid s hv)
  | op h hs | chain h hs | padz h hs | padl h hs =>
    exact hc.errorCase_of_no_command h (accepted_busy s (by simp [hs]))

/-- Settles O18: of the three things a step can do to the flags, only a listed command's takes ERR from 0 to 1. -/
theorem usageErrorsOnlyFromRejectedCommands : Obligations.UsageErrorsOnlyFromRejectedCommands := by
  intro s t ht hs herr
  cases (step_cases s t ht).errorCase with
  | cleared _ h => rw [h] at herr; contradiction
  | kept _ _ h => rw [h, hs] at herr; contradiction
  | raised i code ha hcause e => exact ⟨i, code, ha, hcause, by simp [e, hs]⟩

/-- Settles O19: a further usage error keeps the first cause; a command that raises one is neither INIT nor comes with Reset. -/
theorem errorFlagClearedOnlyByInitAndReset : Obligations.ErrorFlagClearedOnlyByInitAndReset := by
  intro s t ht
  cases (step_cases s t ht).errorCase with
  | cleared h herr hcode _ =>
    exact ⟨fun _ hr hinit => (h.elim (by simp [hr]) hinit).elim, fun _ => ⟨herr, hcode⟩⟩
  | kept hr hinit herr hcode _ =>
    exact ⟨fun hs _ _ => ⟨herr.trans hs, hcode⟩, fun h => (h.elim (by simp [hr]) hinit).elim⟩
  | raised i code ha hcause e =>
    refine ⟨fun hs _ _ => by simp [e, hs], fun h => ?_⟩
    obtain hr | ⟨data, hinit⟩ := h
    · rw [not_reset_of_accepted ha] at hr; contradiction
    · obtain rfl : i = .init data := Option.some.inj (ha.symm.trans hinit)
      rw [causeOf_init] at hcause; contradiction

/-- Settles O42: cleared flags agree, a cause of the table is never none, and only a usage error writes the record. -/
theorem everyStepKeepsErrorInvariant : Obligations.EveryStepKeepsErrorInvariant := by
  intro s t hinv ht
  cases (step_cases s t ht).errorCase with
  | cleared _ herr hcode hrecord => exact ⟨⟨by simp [herr, hcode], by simp [herr]⟩, hrecord.trans⟩
  | kept _ _ herr hcode hrecord =>
    exact ⟨⟨by rw [herr, hcode]; exact hinv.cause, by rw [herr, hrecord]; exact hinv.recorded⟩, hrecord.trans⟩
  | raised i code _ hcause e =>
    have hnew : t.ERRCODE ≠ .none := by
      rw [e, raiseUsageError_ERRCODE]
      split
      next herr => exact hinv.cause.mp herr
      next => exact causeOf_ne_none hcause
    exact ⟨⟨iff_of_true (by rw [e]; rfl) hnew, fun _ => by rw [e]; rfl⟩, fun _ => by rw [e]; rfl⟩

end Sys2Proof.Machine
end

section
/-! SUPPORT. A bank of engines: a step of the bank is a step of one engine (R172). -/

namespace Sys2Proof.Machine

/-- Everything a step of a bank that answers a next bank can have done. -/
theorem stepBank_cases {k : Nat} {bank bank' : List State} (h : stepBank k bank = .next bank') :
    (bank[k]? = none ∧ bank' = bank) ∨ ∃ s t, bank[k]? = some s ∧ step s = .next t ∧ bank' = bank.set k t := by
  unfold stepBank at h
  split at h
  next hk => cases h; exact .inl ⟨hk, rfl⟩
  next s hk =>
    split at h
    next t ht => cases h; exact .inr ⟨s, t, hk, ht, rfl⟩
    next => contradiction
    next => contradiction

theorem stepBank_length {k : Nat} {bank bank' : List State} (h : stepBank k bank = .next bank') :
    bank'.length = bank.length := by
  obtain ⟨-, rfl⟩ | ⟨s, t, -, -, rfl⟩ := stepBank_cases h
  · rfl
  · exact List.length_set

theorem stepBank_getElem?_ne {k j : Nat} {bank bank' : List State} (h : stepBank k bank = .next bank') (hj : j ≠ k) :
    bank'[j]? = bank[j]? := by
  obtain ⟨-, rfl⟩ | ⟨s, t, -, -, rfl⟩ := stepBank_cases h
  · rfl
  · exact List.getElem?_set_ne hj.symm

theorem stepBank_getElem?_self {k : Nat} {bank bank' : List State} (h : stepBank k bank = .next bank') {s : State}
    (hk : bank[k]? = some s) : ∃ t, step s = .next t ∧ bank'[k]? = some t := by
  obtain ⟨hnone, -⟩ | ⟨u, t, hu, ht, rfl⟩ := stepBank_cases h
  · rw [hk] at hnone; contradiction
  · obtain rfl : s = u := Option.some.inj (hk.symm.trans hu)
    exact ⟨t, ht, by rw [List.getElem?_set_self', hk]; rfl⟩

theorem stepBank_beyond {k : Nat} {bank bank' : List State} (h : stepBank k bank = .next bank') (hk : bank[k]? = none) :
    bank' = bank := by
  obtain ⟨-, e⟩ | ⟨s, t, hs, -, -⟩ := stepBank_cases h
  · exact e
  · rw [hk] at hs; contradiction

/-- What engine k is after its step depends on nothing but engine k. -/
theorem stepBank_getElem?_congr {k : Nat} {bank bank' other other' : List State} (h : stepBank k bank = .next bank')
    (ho : stepBank k other = .next other') (hk : bank[k]? = other[k]?) : bank'[k]? = other'[k]? := by
  cases hs : bank[k]? with
  | none =>
    rw [stepBank_beyond h hs, stepBank_beyond ho (hk.symm.trans hs)]
    exact hk
  | some s =>
    obtain ⟨t, ht, e⟩ := stepBank_getElem?_self h hs
    obtain ⟨t', ht', e'⟩ := stepBank_getElem?_self ho (hk.symm.trans hs)
    rw [ht] at ht'
    cases ht'
    exact e.trans e'.symm

/-- Steps of two engines, in either order: each engine sees its own step and nothing of the other's. -/
theorem stepBank_comm {bank one two other both : List State} {j k : Nat} (hjk : j ≠ k) (hone : stepBank j bank = .next one)
    (hboth : stepBank k one = .next both) (htwo : stepBank k bank = .next two) (hother : stepBank j two = .next other) :
    both = other := by
  refine List.ext_getElem? fun i => ?_
  by_cases hi : i = j
  · subst hi
    rw [stepBank_getElem?_ne hboth hjk]
    exact stepBank_getElem?_congr hone hother (stepBank_getElem?_ne htwo hjk).symm
  by_cases hi' : i = k
  · subst hi'
    rw [stepBank_getElem?_ne hother hi]
    exact stepBank_getElem?_congr hboth htwo (stepBank_getElem?_ne hone hi)
  · rw [stepBank_getElem?_ne hboth hi', stepBank_getElem?_ne hone hi, stepBank_getElem?_ne hother hi,
      stepBank_getElem?_ne htwo hi']

/-- Settles O60: a step of the bank replaces one engine by what its own step answers, and two that differ do not meet. -/
theorem instancesAreIndependent : Obligations.InstancesAreIndependent :=
  ⟨fun _ _ _ h => ⟨stepBank_length h, fun _ => stepBank_getElem?_ne h, fun _ => stepBank_getElem?_self h⟩,
    fun _ _ _ _ _ _ _ => stepBank_comm⟩

end Sys2Proof.Machine
end

section
/-! SUPPORT. What the Reset event leaves, and what it reads of the state before it (R27, R190). -/

namespace Sys2Proof.Machine

theorem status_resetEvent (s : State) : (resetEvent s).status = 0x01 := by
  simp only [State.status, State.done, State.rdy, resetEvent_PHASE, resetEvent_SEQ, resetEvent_ERR, resetEvent_ERRCODE]
  decide

theorem readDigest_resetEvent (s : State) : (resetEvent s).readDigest = .error .digestUnspecified :=
  State.readDigest_not_done (by simp)

theorem bufRead_resetEvent (s : State) (i : BitVec 6) : bufRead (resetEvent s).BUF i = .error (.bufUnwritten i.toNat) :=
  bufRead_unwritten i

/-- The Reset event reads no register of the spec: only the host's inputs and the model's own records. -/
theorem resetEvent_congr {s u : State} (hport : s.PORT = u.PORT) (hdraws : s.DRAWS = u.DRAWS)
    (heverErr : s.EVERERR = u.EVERERR) : resetEvent s = resetEvent u := by
  simp only [resetEvent, hport, hdraws, heverErr]

/-- Settles O7: the step is the Reset event after the host's input is dropped, and the event reads none of the registers. -/
theorem resetEventAbandonsEverything : Obligations.ResetEventAbandonsEverything := by
  refine ⟨fun s h => ⟨_, step_reset s h, rfl, rfl, rfl, rfl, rfl, rfl, status_resetEvent _, readDigest_resetEvent _,
    bufRead_resetEvent _, rfl⟩, fun s u hs hu hport hdraws heverErr => ?_⟩
  have same : resetEvent s.shiftInput = resetEvent u.shiftInput := resetEvent_congr hport hdraws heverErr
  rw [step_reset s hs, step_reset u hu, same]

end Sys2Proof.Machine
end
